-- ==== Sys2Proof/Word.lean ====
section
/-! DEFINITION. The word types of the light-control block (R4, R5): every value is unsigned, bit 0 is the least
significant bit. -/

namespace Sys2Proof

/-- A field of the control byte: 4 bits, unsigned (R4, R40). -/
abbrev Nibble := BitVec 4

/-- A control byte: 8 bits (R4, R40). -/
abbrev Byte := BitVec 8

/-- A duty value, the period register or the counter: 16 bits (R4). -/
abbrev Word := BitVec 16

/-- A serial frame as a 10-bit number whose bit 0 is the first bit in time, the start bit, and whose bit 9 is the
last, the stop bit (R47). -/
abbrev LineFrame := BitVec 10

end Sys2Proof
end

