-- ==== Sys2Proof/Machine/Event.lean ====
section
/-! DEFINITION. The events: one atomic step of one agent (R8). A script (R48) is a list of them. -/

namespace Sys2Proof.Machine

/-- What may happen next. "Steps of different agents never happen at the same time in the model" (R120). -/
inductive Event where
  /-- TMR: one tick (R72). -/
  | tick
  /-- SEQ: one sequencer step (R90). -/
  | seq
  /-- ENV and RX: ten bit-times arrive on RXD; if they are a well-formed frame this is `rx(d)` (R24, R44, R100). -/
  | line (f : LineFrame)
  /-- ENV: serial-transmit-ready is raised (R106). -/
  | txReady
  /-- ENV: the reset input is asserted (R130). -/
  | reset
deriving DecidableEq, Repr, Inhabited

end Sys2Proof.Machine
end

