-- ==== Sys2Proof/Syntax.lean ====
section
/-! DEFINITION. The instructions: one constructor for each row of spec/opcode_table.json. -/

namespace Sys2Proof

/-- The eight operations of the block: the one command LIGHT (R50), the line event RXFRAME (R100) and the six
internal strobes of R46. The operands' types are the fields' widths, so that "no out-of-range state is
representable" (R41). -/
inductive Instr where
  /-- `LIGHT c, b` (R40, R50, R88): the control byte with colour code `c` and brightness `b`. -/
  | light (c b : Nibble)
  /-- `RXFRAME d` (R44, R100): a well-formed frame carrying the byte `d`; the event `rx(d)`. -/
  | rxframe (d : Byte)
  /-- `ind_set(on)` (R85), performed in phase A_IND. -/
  | indSet (on : Bool)
  /-- `out_disable` (R66), performed in phase A_STOP. -/
  | outDisable
  /-- `wr_period(v)` (R67), performed in phase A_PERIOD. -/
  | wrPeriod (v : Word)
  /-- `wr_duty_a(v)` (R68), performed in phase A_DUTY_A. -/
  | wrDutyA (v : Word)
  /-- `wr_duty_b(v)` (R69), performed in phase A_DUTY_B. -/
  | wrDutyB (v : Word)
  /-- `out_enable` (R70), performed in phase A_START. -/
  | outEnable
deriving DecidableEq, Repr

end Sys2Proof
end

