-- ==== Sys2Proof/WellFormed.lean ====
section
/-! DEFINITION. The three raw forms in which an instruction reaches the block (R40, R44, R46) and the check of each.
Instr itself needs no check: its operand types admit no value outside the fields' ranges (R41, R42). -/

namespace Sys2Proof

/-- The six strobes, selected by name: "it has no opcode bits and no address" (R46). -/
inductive Strobe where
  | indSet | outDisable | wrPeriod | wrDutyA | wrDutyB | outEnable
deriving DecidableEq, Repr

/-- How many payload bits a strobe carries (R46, column "payload"). -/
def Strobe.payloadBits : Strobe → Nat
  | .indSet => 1
  | .outDisable => 0
  | .wrPeriod => 16
  | .wrDutyA => 16
  | .wrDutyB => 16
  | .outEnable => 0

/-- An instruction before decoding. -/
inductive Encoded where
  /-- Command level: one control byte (R40, R43). -/
  | controlByte (w : Byte)
  /-- Line level: one ten-bit frame (R44). -/
  | serialFrame (f : LineFrame)
  /-- Inside the block: a strobe by name, with its payload in the low bits of a word (R46). -/
  | strobe (n : Strobe) (payload : Word)
deriving DecidableEq, Repr

/-- A frame is well formed when its start bit reads 0 and its stop bit reads 1 (R44, R45; the levels are PRESUMED,
G1, log 9). -/
def frameWf (f : LineFrame) : Bool := !f.getLsbD 0 && f.getLsbD 9

/-- A strobe's payload must fit the payload width the strobe has (R46). -/
def strobeWf (n : Strobe) (payload : Word) : Bool := decide (payload.toNat < 2 ^ n.payloadBits)

/-- The check of a raw form. Every control byte passes: "All 256 values of the control byte are legal" (R42). -/
def Encoded.wf : Encoded → Bool
  | .controlByte _ => true
  | .serialFrame f => frameWf f
  | .strobe n payload => strobeWf n payload

/-- The legal range of PWM_PERIOD, `1 <= PWM_PERIOD <= 65534` (R3); outside it the configuration is refused (U10). -/
def periodWf (n : Nat) : Bool := decide (1 ≤ n ∧ n ≤ 65534)

end Sys2Proof
end

