-- ==== Sys2Proof/Config.lean ====
section
/-! DEFINITION. What an implementation fixes (PWM_PERIOD, BAUD) and the one free value, the interleaving of the
agents. -/

namespace Sys2Proof

/-- PWM_PERIOD: "a fixed configuration constant (ticks per PWM cycle), shared by both channels" (R3), with its legal
range carried along, so that no machine has an illegal period (U10). -/
structure PwmPeriod where
  ticks : Word
  legal : 1 ≤ ticks.toNat ∧ ticks.toNat ≤ 65534
deriving DecidableEq, Repr

/-- The configuration check: "the model's well-formedness check on its configuration rejects it" (U10). -/
def PwmPeriod.ofNat? (n : Nat) : Option PwmPeriod :=
  if h : periodWf n = true then
    some ⟨BitVec.ofNat 16 n, by simp only [periodWf, decide_eq_true_eq] at h; rw [BitVec.toNat_ofNat]; omega⟩
  else none

/-- "This spec takes PWM_PERIOD = 3374 as the value of this hardware" (R3, D3; log 7). -/
def Config.pwmPeriod : PwmPeriod := ⟨3374, by decide⟩

/-- BAUD: OPEN, "no rule depends on it" (R44, D14). It is named and nothing reads it (log 15). -/
opaque Config.baud : Nat

/-- FREE VALUE: which agent steps next, and what the line then carries, where no script says so. The agents are
"interleaved in any order" (R8): a claim must hold whatever this is. Applied to State.draws (log 1). -/
opaque Config.freeEvent : Nat → Machine.Event

end Sys2Proof
end

