-- ==== Sys2Proof/Machine/State.lean ====
section
/-! DEFINITION. The state: the fourteen elements of R10 and the model's own three fields, and reset (R130). -/

namespace Sys2Proof.Machine

/-- PHASE (R17): the action the sequencer's next step will perform. -/
inductive Phase where
  | idle | aInd | aStop | aPeriod | aDutyA | aDutyB | aStart | halt
deriving DecidableEq, Repr

/-- POL, hardwired: the one polarity this block has (R22, D6; log 8). -/
inductive Polarity where
  /-- ACTIVE_LOW: "a lit channel drives its pin to logic 0". -/
  | activeLow
deriving DecidableEq, Repr

/-- IDLE_LEVEL, hardwired: the one idle level this block has (R22, D6; log 8). -/
inductive IdleLevel where
  /-- Logic 1: "a disabled or unlit channel's pin is at logic 1". -/
  | high
deriving DecidableEq, Repr

/-- The complete state of the block. -/
structure State where
  /-- RX_LATCH: the mailbox's byte (R11). -/
  rxLatch : Byte
  /-- RX_PENDING: the mailbox holds a byte not yet taken (R12). -/
  rxPending : Bool
  /-- PHASE (R17). -/
  phase : Phase
  /-- CUR_BYTE: the byte being applied (R13). -/
  curByte : Byte
  /-- COOL: the coolDuty of the update in progress (R14). -/
  cool : Word
  /-- WARM: the warmDuty of the update in progress (R14). -/
  warm : Word
  /-- IND: the indicator (R15). -/
  ind : Bool
  /-- PERIOD: the timer's period register (R18). -/
  period : Word
  /-- DUTY_A: channel A's compare register (R19). -/
  dutyA : Word
  /-- DUTY_B: channel B's compare register (R19). -/
  dutyB : Word
  /-- OUT_EN: output generation enabled (R20). -/
  outEn : Bool
  /-- CNT: the timer's up-counter (R21). -/
  cnt : Word
  /-- POL, hardwired (R22). -/
  pol : Polarity
  /-- IDLE_LEVEL, hardwired (R22). -/
  idleLevel : IdleLevel
  /-- The MODEL's own: the PWM_PERIOD this machine was built with, "fixed for the whole life of the device" (R3). -/
  pwmPeriod : PwmPeriod
  /-- The MODEL's own: the events that happen next, oldest first (R8, R48; log 1). -/
  script : List Event
  /-- The MODEL's own: how many free scheduling choices have been drawn (R8; log 1). -/
  draws : Nat
deriving DecidableEq, Repr

/-- Why the machine stops. -/
inductive Fault where
  /-- Raised by `sequencerStep` when a sequencer step is asked for in PHASE = HALT, where it "has no enabled step,
  ever" and "A model must treat a halted state as a fault" (R116; log 5). SAFE: the model stops where the hardware does
  nothing; PHASE = HALT is unreachable (R117). -/
  | halted
deriving DecidableEq, Repr

/-- Why an instruction has no meaning. -/
inductive Refusal where
  /-- Only for an arm of `exec` whose instruction has no meaning yet; none is left. SAFE. -/
  | notModelled (mnemonic : String)
deriving DecidableEq, Repr

/-- The reset state of a block built with the period `p` (R130). RX_LATCH, CUR_BYTE, COOL and WARM are "unspecified"
there: the zeros are the model's (DESIGN CHOICE, UNSAFE, log 2). -/
def State.resetFor (p : PwmPeriod) : State where
  rxLatch := 0
  rxPending := false
  phase := .idle
  curByte := 0
  cool := 0
  warm := 0
  ind := false
  period := p.ticks
  dutyA := 0
  dutyB := 0
  outEn := false
  cnt := 0
  pol := .activeLow
  idleLevel := .high
  pwmPeriod := p
  script := []
  draws := 0

/-- The machine right after reset (R130), with PWM_PERIOD = 3374 (R3). -/
def State.reset : State := State.resetFor Config.pwmPeriod

end Sys2Proof.Machine
end

