-- ==== Sys2Proof/Machine/Ops.lean ====
section
/-! DEFINITION. The named writes to registers, the sequencer's advance, the one exception's entry, and reset. The block
has no memory (R30), so there is no memory operation. -/

namespace Sys2Proof.Machine

/-- `PHASE <- p`. -/
def State.setPhase (s : State) (p : Phase) : State := { s with phase := p }

/-- The mailbox write: `RX_LATCH <- d; RX_PENDING <- 1` (R100). -/
def State.latchByte (s : State) (d : Byte) : State := { s with rxLatch := d, rxPending := true }

/-- The take's writes before its range check: `CUR_BYTE <- byte; RX_PENDING <- 0; COOL <- cool; WARM <- warm` (R88). -/
def State.beginUpdate (s : State) (byte : Byte) (cool warm : Word) : State :=
  { s with curByte := byte, rxPending := false, cool := cool, warm := warm }

/-- `IND <- on` (R85). -/
def State.setInd (s : State) (on : Bool) : State := { s with ind := on }

/-- `OUT_EN <- on` (R66, R70). -/
def State.setOutEn (s : State) (on : Bool) : State := { s with outEn := on }

/-- `PERIOD <- v` (R67). -/
def State.setPeriod (s : State) (v : Word) : State := { s with period := v }

/-- `DUTY_A <- v` (R68). -/
def State.setDutyA (s : State) (v : Word) : State := { s with dutyA := v }

/-- `DUTY_B <- v` (R69). -/
def State.setDutyB (s : State) (v : Word) : State := { s with dutyB := v }

/-- `CNT <- v` (R72). -/
def State.setCnt (s : State) (v : Word) : State := { s with cnt := v }

/-- The events still to come (log 1). -/
def State.setScript (s : State) (es : List Event) : State := { s with script := es }

/-- The free choices drawn so far (log 1). -/
def State.setDraws (s : State) (n : Nat) : State := { s with draws := n }

/-- The column "then PHASE <-" of R17, less the take's branch to HALT. -/
def Phase.next : Phase → Phase
  | .idle => .aInd
  | .aInd => .aStop
  | .aStop => .aPeriod
  | .aPeriod => .aDutyA
  | .aDutyA => .aDutyB
  | .aDutyB => .aStart
  | .aStart => .idle
  | .halt => .halt

/-- The sequencer moves on when the strobe of phase `p` is performed in phase `p` ("Each is performed by exactly one
phase", R46). Outside it PHASE stays: "There is no other transition" (R90). (DESIGN CHOICE, log 4.) -/
def State.advanceFrom (s : State) (p : Phase) : State := if s.phase = p then s.setPhase p.next else s

/-- Taking the block's one exception: "entry is the single write PHASE <- HALT inside the take step. Nothing is saved,
there is no handler address and no mode change" (R115, R122). There is no return beside it: "There is no return from
HALT" (R123); only reset leaves it (R116). -/
def raiseRangeViolation (s : State) : State := s.setPhase .halt

/-- The reset step (R130, R131): every element to its reset value at once. The configuration and the schedule are not
elements of R10 and stay (log 2, log 7). -/
def resetStep (s : State) : State :=
  { State.resetFor s.pwmPeriod with script := s.script, draws := s.draws }

end Sys2Proof.Machine
end

