-- ==== Sys2Proof/Machine/Indicator.lean ====
section
/-! DEFINITION. The indicator (R85) and its step of an update (R89). -/

namespace Sys2Proof.Machine

/-- ind_set(on) (R85); performed in A_IND it moves the sequencer to A_STOP (R89). -/
def execIndSet (on : Bool) (s : State) : Host.Outcome State Fault Refusal := .next ((s.setInd on).advanceFrom .aInd)

end Sys2Proof.Machine
end

