-- ==== Sys2Proof/Machine/Receiver.lean ====
section
/-! DEFINITION. The receive step (R100). -/

namespace Sys2Proof.Machine

/-- RXFRAME d, the event `rx(d)` (R100): always enabled, in every phase including HALT; it overwrites the mailbox. -/
def execRxframe (d : Byte) (s : State) : Host.Outcome State Fault Refusal := .next (s.latchByte d)

end Sys2Proof.Machine
end

