-- ==== Sys2Proof/Decode.lean ====
section
/-! DEFINITION. Decoding (total, rejecting by name) and the encoder, both from `30_encoding.md` R40 to R49. -/

namespace Sys2Proof

/-- Why a raw form is no instruction. A control byte is never refused (R42). -/
inductive DecodeError where
  /-- The first bit-time reads 1: the line is at rest there and no frame has begun (R44; log 9). -/
  | noStartBit
  /-- The stop position reads 0: a framing error or break, which delivers no byte (R45). -/
  | framingError
  /-- The sequence of line bits is not ten bit-times long (R44). -/
  | notTenBits
  /-- A strobe's payload is wider than the strobe's payload field (R46). -/
  | payloadTooWide
deriving DecidableEq, Repr

/-- `c = byte[7:4]` (R41). -/
def codeField (w : Byte) : Nibble := w.extractLsb' 4 4

/-- `b = byte[3:0]` (R41). -/
def levelField (w : Byte) : Nibble := w.extractLsb' 0 4

/-- `byte = 16 * c + b` (R41). -/
def byteOf (c b : Nibble) : Byte := c ++ b

/-- The frame that carries `d`, in the numbering of R47: start bit 0 in bit 0, `d` in bits 8:1, stop bit 1 in bit 9
(R44). -/
def frameOf (d : Byte) : LineFrame := 1#1 ++ d ++ 0#1

/-- Command level: "All 256 values of the control byte are legal and all select the one operation" (R42). -/
def decodeByte (w : Byte) : Instr := .light (codeField w) (levelField w)

/-- Line level: mask `0x201`, match `0x200`, data least significant bit first (R44, R45, R47). -/
def decodeFrame (f : LineFrame) : Except DecodeError Instr :=
  if f.getLsbD 0 then .error .noStartBit
  else if f.getLsbD 9 then .ok (.rxframe (f.extractLsb' 1 8))
  else .error .framingError

/-- Line level, from the bits in time order, first bit first (R44). -/
def decodeLine (bits : List Bool) : Except DecodeError Instr :=
  if bits.length = 10 then decodeFrame ((BitVec.ofBoolListLE bits).setWidth 10) else .error .notTenBits

/-- The instruction a strobe's name and payload stand for (R46). -/
def strobeInstr (n : Strobe) (payload : Word) : Instr :=
  match n with
  | .indSet => .indSet (payload.getLsbD 0)
  | .outDisable => .outDisable
  | .wrPeriod => .wrPeriod payload
  | .wrDutyA => .wrDutyA payload
  | .wrDutyB => .wrDutyB payload
  | .outEnable => .outEnable

/-- Decoding of any raw form. -/
def decode : Encoded → Except DecodeError Instr
  | .controlByte w => .ok (decodeByte w)
  | .serialFrame f => decodeFrame f
  | .strobe n payload => if strobeWf n payload then .ok (strobeInstr n payload) else .error .payloadTooWide

/-- The raw form of each instruction (R41 inverse, R44, R46). -/
def encode : Instr → Encoded
  | .light c b => .controlByte (byteOf c b)
  | .rxframe d => .serialFrame (frameOf d)
  | .indSet on => .strobe .indSet (BitVec.ofNat 16 on.toNat)
  | .outDisable => .strobe .outDisable 0
  | .wrPeriod v => .strobe .wrPeriod v
  | .wrDutyA v => .strobe .wrDutyA v
  | .wrDutyB v => .strobe .wrDutyB v
  | .outEnable => .strobe .outEnable 0

/-- What the decoder reads from the bits of an opcode-table row. The rows with bits are LIGHT, 8 bits wide, and
RXFRAME, 10 bits wide, 16 in whole bytes, whose first ten bit-times are the frame. The strobes are selected by name and
have no bits (R46), so no word stands for one. (DESIGN CHOICE, log 10.) -/
def decodeTableWord (nbits w : Nat) : Option Instr :=
  if nbits = 8 then some (decodeByte (BitVec.ofNat 8 w))
  else if nbits = 10 ∨ nbits = 16 then (decodeFrame (BitVec.ofNat 10 w)).toOption
  else none

end Sys2Proof
end

