-- ==== Sys2Proof/Machine/ColorMixer.lean ====
section
/-! DEFINITION. The duty-cycle decoder, `40_color_mixer.md` R50 to R54: naturals, truncating division, narrowed at the
end. -/

namespace Sys2Proof.Machine

/-- `U = unitDuty = (P + 1) / 15` (R50, R52). -/
def unitDuty (P : Nat) : Nat := (P + 1) / 15

/-- `K = (P + 1) / 225` (R52). -/
def codeDuty (P : Nat) : Nat := (P + 1) / 225

/-- `warmDuty = unitDuty * b - ((P + 1) / 225) * c * b` (R50). -/
def warmDuty (P c b : Nat) : Nat := unitDuty P * b - codeDuty P * c * b

/-- `coolDuty = unitDuty * b - warmDuty` (R50). -/
def coolDuty (P c b : Nat) : Nat := unitDuty P * b - warmDuty P c b

/-- The DutyPair `{coolDuty, warmDuty}` (R14, R50). -/
structure DutyPair where
  cool : Word
  warm : Word
deriving DecidableEq, Repr

/-- The result of `LIGHT c, b` for the period `p`: the pair narrowed to 16 bits each, which "loses nothing" (R50). -/
def lightDuties (p : PwmPeriod) (c b : Nibble) : DutyPair where
  cool := BitVec.ofNat 16 (coolDuty p.ticks.toNat c.toNat b.toNat)
  warm := BitVec.ofNat 16 (warmDuty p.ticks.toNat c.toNat b.toNat)

/-- The result of `LIGHT` for the control byte `w`. -/
def byteDuties (p : PwmPeriod) (w : Byte) : DutyPair := lightDuties p (codeField w) (levelField w)

end Sys2Proof.Machine
end

