-- ==== Sys2Proof/Machine/Flags.lean ====
section
/-! DEFINITION. The computed bits: the indicator value (R86), the range check (R115), the take's and the sequencer's
enabling (R88, R90). No operation sets a flag as a side effect of arithmetic (R26). -/

namespace Sys2Proof.Machine

/-- `on = (b != 0)` (R86). -/
def indicatorOn (b : Nibble) : Bool := b != 0

/-- The condition of RangeViolation: `coolDuty > PWM_PERIOD + 1 or warmDuty > PWM_PERIOD + 1`, "evaluated ... on the
values about to be stored in COOL and WARM", `PWM_PERIOD + 1` in nat (R115, R118). -/
def rangeViolation (p : PwmPeriod) (cool warm : Word) : Bool :=
  decide (cool.toNat > p.ticks.toNat + 1) || decide (warm.toNat > p.ticks.toNat + 1)

/-- "Enabled: only when PHASE = IDLE and RX_PENDING = 1" (R88). -/
def State.takeEnabled (s : State) : Bool := s.phase == .idle && s.rxPending

/-- "the block is halted exactly when PHASE = HALT" (R16). -/
def State.halted (s : State) : Bool := s.phase == .halt

/-- The column "enabled when" of R90. -/
def State.seqEnabled (s : State) : Bool := !s.halted && (s.phase != .idle || s.rxPending)

/-- "a state with PHASE = IDLE and RX_PENDING = 0" (R146). -/
def State.quiescent (s : State) : Bool := s.phase == .idle && !s.rxPending

end Sys2Proof.Machine
end

