-- ==== Sys2Proof/Machine/Sequencer.lean ====
section
/-! DEFINITION. The take step (R88) and LIGHT, the command it performs. -/

namespace Sys2Proof.Machine

/-- The take step on a byte and the pair computed for it: the writes, then the range check, which raises
RangeViolation or moves to A_IND (R88, R115, R122). -/
def State.takeByte (s : State) (byte : Byte) (d : DutyPair) : State :=
  let t := s.beginUpdate byte d.cool d.warm
  if rangeViolation s.pwmPeriod d.cool d.warm then raiseRangeViolation t else t.setPhase .aInd

/-- LIGHT c, b (R50, R88): where the take is enabled, the take step with the byte `16 * c + b`; elsewhere nothing is
taken, and the operation writes no state ("State written: none by the operation itself", R50). (DEDUCED, log 3.) -/
def execLight (c b : Nibble) (s : State) : Host.Outcome State Fault Refusal :=
  if s.takeEnabled then .next (s.takeByte (byteOf c b) (lightDuties s.pwmPeriod c b)) else .next s

end Sys2Proof.Machine
end

