-- ==== Sys2Proof/Machine/Timer.lean ====
section
/-! DEFINITION. The timer: the five strobes of APPLY (R65 to R70), the tick (R72, R84), the comparators and the pins
(R73, R74). -/

namespace Sys2Proof.Machine

/-- out_disable (R66). -/
def execOutDisable (s : State) : Host.Outcome State Fault Refusal := .next ((s.setOutEn false).advanceFrom .aStop)

/-- wr_period(v) (R67): "the strobe as a capability accepts any 16-bit v". -/
def execWrPeriod (v : Word) (s : State) : Host.Outcome State Fault Refusal :=
  .next ((s.setPeriod v).advanceFrom .aPeriod)

/-- wr_duty_a(v) (R68): "any 16-bit value is accepted, including values above PERIOD". -/
def execWrDutyA (v : Word) (s : State) : Host.Outcome State Fault Refusal :=
  .next ((s.setDutyA v).advanceFrom .aDutyA)

/-- wr_duty_b(v) (R69). -/
def execWrDutyB (v : Word) (s : State) : Host.Outcome State Fault Refusal :=
  .next ((s.setDutyB v).advanceFrom .aDutyB)

/-- out_enable (R70). -/
def execOutEnable (s : State) : Host.Outcome State Fault Refusal := .next ((s.setOutEn true).advanceFrom .aStart)

/-- The counter after one tick: `if CNT + 1 >= PERIOD then 0 else CNT + 1`, `CNT + 1` in nat (R72, R84). -/
def nextCount (period cnt : Word) : Word := if cnt.toNat + 1 ≥ period.toNat then 0 else cnt + 1

/-- The one step of agent TMR (R72): "A tick is always enabled, in every phase including HALT". -/
def tick (s : State) : State := s.setCnt (nextCount s.period s.cnt)

/-- The comparator: `(OUT_EN = 1) and (CNT < DUTY)`, unsigned (R73). -/
def lit (outEn : Bool) (cnt duty : Word) : Bool := outEn && cnt.ult duty

/-- The pin level of a lit channel (R22). -/
def Polarity.litLevel : Polarity → Bool
  | .activeLow => false

/-- The pin level of a channel that is disabled or past its threshold (R22). -/
def IdleLevel.level : IdleLevel → Bool
  | .high => true

/-- The pin function (R74). -/
def pinLevel (pol : Polarity) (idle : IdleLevel) (isLit : Bool) : Bool := if isLit then pol.litLevel else idle.level

/-- `lit_A` (R73). -/
def State.litA (s : State) : Bool := lit s.outEn s.cnt s.dutyA

/-- `lit_B` (R73). -/
def State.litB (s : State) : Bool := lit s.outEn s.cnt s.dutyB

/-- `PIN_A` (R74). -/
def State.pinA (s : State) : Bool := pinLevel s.pol s.idleLevel s.litA

/-- `PIN_B` (R74). -/
def State.pinB (s : State) : Bool := pinLevel s.pol s.idleLevel s.litB

/-- `PIN_IND = IND` (R15). -/
def State.pinInd (s : State) : Bool := s.ind

/-- What an observer sees: "These three bits, after every step of every agent, are the whole observable behaviour of the
block" (R23), in the order PIN_A, PIN_B, PIN_IND. -/
def State.pins (s : State) : Bool × Bool × Bool := (s.pinA, s.pinB, s.pinInd)

end Sys2Proof.Machine
end

