-- ==== Sys2Proof/Machine/Dispatch.lean ====
section
/-! DEFINITION. One arm per instruction. -/

namespace Sys2Proof.Machine

def exec (i : Instr) (s : State) : Host.Outcome State Fault Refusal :=
  match i with
  | .light c b => Sys2Proof.Machine.execLight c b s
  | .rxframe d => Sys2Proof.Machine.execRxframe d s
  | .indSet on => Sys2Proof.Machine.execIndSet on s
  | .outDisable => Sys2Proof.Machine.execOutDisable s
  | .wrPeriod v => Sys2Proof.Machine.execWrPeriod v s
  | .wrDutyA v => Sys2Proof.Machine.execWrDutyA v s
  | .wrDutyB v => Sys2Proof.Machine.execWrDutyB v s
  | .outEnable => Sys2Proof.Machine.execOutEnable s

end Sys2Proof.Machine
end

