-- ==== Sys2Proof/Machine/Operands.lean ====
section
/-! DEFINITION. Where each operand comes from: the payloads the sequencer supplies (R46, opcode_table.json's
"value_supplied") and the instruction it performs in each phase (R17, R90). -/

namespace Sys2Proof.Machine

/-- ind_set's payload: `CUR_BYTE[3:0] != 0` (R86, R89). -/
def State.indPayload (s : State) : Bool := indicatorOn (levelField s.curByte)

/-- wr_period's payload: "always PWM_PERIOD" (R67). -/
def State.periodPayload (s : State) : Word := s.pwmPeriod.ticks

/-- wr_duty_a's payload: COOL (R68). -/
def State.dutyAPayload (s : State) : Word := s.cool

/-- wr_duty_b's payload: WARM (R69). -/
def State.dutyBPayload (s : State) : Word := s.warm

/-- What the sequencer's next step performs (R17): in IDLE the command decoded from the mailbox, if one is pending; in
each A_ phase that phase's strobe with its payload; in HALT nothing. -/
def sequencerInstr (s : State) : Option Instr :=
  match s.phase with
  | .idle => if s.rxPending then some (decodeByte s.rxLatch) else none
  | .aInd => some (.indSet s.indPayload)
  | .aStop => some .outDisable
  | .aPeriod => some (.wrPeriod s.periodPayload)
  | .aDutyA => some (.wrDutyA s.dutyAPayload)
  | .aDutyB => some (.wrDutyB s.dutyBPayload)
  | .aStart => some .outEnable
  | .halt => none

end Sys2Proof.Machine
end

