-- ==== Sys2Proof/Machine/Agents.lean ====
section
/-! DEFINITION. The agents' steps (R8): fetching and performing an instruction, one event, a list of events, and which
event comes next. -/

namespace Sys2Proof.Machine

/-- The sequencer's step (R90). With nothing to perform it does nothing in IDLE, "an idle loop that performs no work"
(R99; DEDUCED, log 6), and in HALT, where it never has a step, the model stops by name (R116; log 5). -/
def sequencerStep (s : State) : Host.Outcome State Fault Refusal :=
  match sequencerInstr s with
  | some i => exec i s
  | none => if s.halted then .fault .halted else .next s

/-- Ten bit-times on RXD: a well-formed frame is one receive step (R100, R110); any other delivers no byte and changes
nothing (R45). -/
def receiveLine (f : LineFrame) (s : State) : Host.Outcome State Fault Refusal :=
  match decodeFrame f with
  | .ok i => exec i s
  | .error _ => .next s

/-- One event. `tx_ready` "changes no state element" (R106). -/
def perform (e : Event) (s : State) : Host.Outcome State Fault Refusal :=
  match e with
  | .tick => .next (tick s)
  | .seq => sequencerStep s
  | .line f => receiveLine f s
  | .txReady => .next s
  | .reset => .next (resetStep s)

/-- Events in order, stopping at the first that does not answer a next state (R48). -/
def performAll : List Event → State → Host.Outcome State Fault Refusal
  | [], s => .next s
  | e :: es, s =>
    match perform e s with
    | .next t => performAll es t
    | .fault r => .fault r
    | .refused r => .refused r

/-- The next event and the state without it: the head of the script, or, the script being empty, a free choice
(R8; DESIGN CHOICE, log 1). -/
def nextEvent (s : State) : Event × State :=
  match s.script with
  | e :: rest => (e, s.setScript rest)
  | [] => (Config.freeEvent s.draws, s.setDraws (s.draws + 1))

/-- The event `rx(d)` of a script (R48): the frame of `d` on the line. -/
def Event.rx (d : Byte) : Event := .line (frameOf d)

/-- The script command `run` (R48): sequencer steps until the block is quiescent, which takes at most thirteen, a step in
a quiescent state doing nothing (R146, R99). -/
def runEvents : List Event := List.replicate 13 .seq

/-- The pseudo-operation `send c, b`: `rx (16*c+b)` followed by `run` (R48). -/
def sendEvents (c b : Nibble) : List Event := Event.rx (byteOf c b) :: runEvents

/-- The pseudo-operation `OFF` = `LIGHT 0, 0` (R48). -/
def offInstr : Instr := .light 0 0

/-- The state in which the very next step runs the instruction of an opcode-table word: a control byte stands in the
mailbox, pending, with the sequencer idle and next to step; a frame is the next thing on the line. A strobe has no word
(R46). (DESIGN CHOICE, log 11.) -/
def placeWord (s : State) (nbits w : Nat) : State :=
  if nbits = 8 then
    ((s.latchByte (BitVec.ofNat 8 w)).setPhase .idle).setScript (.seq :: s.script)
  else if nbits = 10 ∨ nbits = 16 then s.setScript (.line (BitVec.ofNat 10 w) :: s.script)
  else s

end Sys2Proof.Machine
end

