-- ==== Sys2Proof/Machine/Step.lean ====
section
/-! DEFINITION. One step of the machine: one event (R8). -/

namespace Sys2Proof.Machine

/-- One atomic step of whichever agent comes next (R8, R36). -/
def step (s : State) : Host.Outcome State Fault Refusal := perform (nextEvent s).1 (nextEvent s).2

/-- The state whose next step runs the given opcode-table word. -/
def State.withFetchWord (s : State) (nbits w : Nat) : State := placeWord s nbits w

end Sys2Proof.Machine
end

