-- ==== Sys2Proof/Safety.lean ====
section
/-! DEFINITION. The terms claims are stated in: what a state shows, the invariant, reachability, schedules and their
premises (R28, R77, R92, R94, R102, R108, R139, R141). -/

namespace Sys2Proof.Machine

/-- The byte an event delivers, if it is a well-formed frame (R110). -/
def Event.byte? : Event → Option Byte
  | .line f => if frameWf f then some (f.extractLsb' 1 8) else none
  | .tick => none
  | .seq => none
  | .txReady => none
  | .reset => none

/-- An event that neither delivers a byte nor resets the block. -/
def Event.quiet (e : Event) : Bool := e != .reset && e.byte?.isNone

/-- The bytes a list of events delivers, in order (R108). -/
def receivedBytes (es : List Event) : List Byte := es.filterMap Event.byte?

/-- The bytes the sequencer takes along a list of events, in order (R108). -/
def takenBytes : List Event → State → List Byte
  | [], _ => []
  | e :: es, s =>
    match perform e s with
    | .next t => (if e = .seq ∧ s.takeEnabled = true then [s.rxLatch] else []) ++ takenBytes es t
    | .fault _ => []
    | .refused _ => []

/-- Phases A_IND to A_START: an update is in progress (R17, "Applying"). -/
def Phase.updating : Phase → Bool
  | .idle => false
  | .aInd => true
  | .aStop => true
  | .aPeriod => true
  | .aDutyA => true
  | .aDutyB => true
  | .aStart => true
  | .halt => false

/-- Phases in which the timer's triple is being rewritten: A_PERIOD, A_DUTY_A, A_DUTY_B, A_START (R28 (vi), R77). -/
def Phase.rewriting : Phase → Bool
  | .idle => false
  | .aInd => false
  | .aStop => false
  | .aPeriod => true
  | .aDutyA => true
  | .aDutyB => true
  | .aStart => true
  | .halt => false

/-- The outputs of byte `d` (R94): the registers as a completed update with `d` leaves them. -/
structure Shows (s : State) (d : Byte) : Prop where
  ind : s.ind = indicatorOn (levelField d)
  dutyA : s.dutyA = (byteDuties s.pwmPeriod d).cool
  dutyB : s.dutyB = (byteDuties s.pwmPeriod d).warm
  period : s.period = s.pwmPeriod.ticks
  outEn : s.outEn = true
  curByte : s.curByte = d

/-- The invariant: R28, made inductive with R91 (the working registers are LIGHT of CUR_BYTE), R77 (the timer's pair is
that of one byte, outside A_DUTY_B) and R94 (what IDLE with the outputs enabled shows). -/
structure Inv (s : State) : Prop where
  period : s.period = s.pwmPeriod.ticks
  count : s.cnt.toNat < s.period.toNat
  running : s.phase ≠ .halt
  gated : s.phase.rewriting = true → s.outEn = false
  working : s.phase.updating = true → DutyPair.mk s.cool s.warm = byteDuties s.pwmPeriod s.curByte
  newInd : s.phase.updating = true → s.phase ≠ .aInd → s.ind = indicatorOn (levelField s.curByte)
  newA : s.phase = .aDutyB ∨ s.phase = .aStart → s.dutyA = s.cool
  newB : s.phase = .aStart → s.dutyB = s.warm
  oneByte : s.phase ≠ .aDutyB → ∃ d, DutyPair.mk s.dutyA s.dutyB = byteDuties s.pwmPeriod d
  someB : ∃ d, s.dutyB = (byteDuties s.pwmPeriod d).warm
  shown : s.phase = .idle → s.outEn = true → Shows s s.curByte

/-- "reachable from reset by the steps of this spec" (R28): for some legal period, some interleaving of the agents'
steps leads from the reset state to `s`. -/
def Reachable (s : State) : Prop := ∃ (p : PwmPeriod) (es : List Event), performAll es (State.resetFor p) = .next s

/-- The first `n` events of a schedule. -/
def firstEvents (sched : Nat → Event) (n : Nat) : List Event := (List.range n).map sched

/-- Weak fairness of SEQ along a schedule from `s`: "if a sequencer step is enabled and stays enabled, it eventually
happens" (R139). -/
def WeakFair (sched : Nat → Event) (s : State) : Prop :=
  ∀ n, (∀ m, n ≤ m → ∃ t, performAll (firstEvents sched m) s = .next t ∧ t.seqEnabled = true) →
    ∃ m, n ≤ m ∧ sched m = .seq

/-- Weak fairness of TMR along a schedule: "ticks ... keep happening". Since "a tick is always enabled", weak fairness
asks it from every point on (R139, R72). Nothing is assumed about ENV. -/
def WeakFairTmr (sched : Nat → Event) : Prop := ∀ n, ∃ m, n ≤ m ∧ sched m = .tick

/-- How many ticks a list of events holds. -/
def tickCount (es : List Event) : Nat := es.count .tick

/-- How many sequencer steps a list of events holds. -/
def seqCount (es : List Event) : Nat := es.count .seq

/-- At how many of the ticks among a list of events a channel is lit, each counted at its start. -/
def litTicks (isLit : State → Bool) : List Event → State → Nat
  | [], _ => 0
  | e :: es, s =>
    match perform e s with
    | .next t => (if e = .tick ∧ isLit s = true then 1 else 0) + litTicks isLit es t
    | .fault _ => 0
    | .refused _ => 0

/-- The byte whose setting the timer's triple holds, along a list of events that starts with `d`'s: an A_START step
completes the update of CUR_BYTE, whose triple is from then on the complete old one (R77); nothing else replaces it. -/
def shownByte : List Event → State → Byte → Byte
  | [], _, d => d
  | e :: es, s, d =>
    match perform e s with
    | .next t => shownByte es t (if e = .seq ∧ s.phase = .aStart then s.curByte else d)
    | .fault _ => d
    | .refused _ => d

/-- Event `n` of a schedule from `s` is the sequencer's step in phase `p`: "the A_STOP step", "the A_START step". -/
def isStep (sched : Nat → Event) (s : State) (p : Phase) (n : Nat) : Bool :=
  sched n == .seq &&
    match performAll (firstEvents sched n) s with
    | .next t => t.phase == p
    | .fault _ => false
    | .refused _ => false

/-- Event `j` of a schedule from `s` is the first step in phase `p` after event `i`. -/
def FirstStepAfter (sched : Nat → Event) (s : State) (p : Phase) (i j : Nat) : Prop :=
  i < j ∧ isStep sched s p j = true ∧ ∀ k, i < k → k < j → isStep sched s p k = false

/-- The events of a schedule strictly between event `i` and event `j`. -/
def eventsBetween (sched : Nat → Event) (i j : Nat) : List Event := (firstEvents sched j).drop (i + 1)

/-- Events `i` and `j` of a schedule from `s` are the A_STOP step and the A_START step of one update: no A_START step
stands between, and no reset, the only thing that abandons an update (R131; log 16). -/
def BlankingInterval (sched : Nat → Event) (s : State) (i j : Nat) : Prop :=
  isStep sched s .aStop i = true ∧ FirstStepAfter sched s .aStart i j ∧ .reset ∉ eventsBetween sched i j

/-- Events `i` and `j` of a schedule from `s` are the A_START step of one update and the A_STOP step of the next;
a reset between does not end the interval (log 16). -/
def ShowingInterval (sched : Nat → Event) (s : State) (i j : Nat) : Prop :=
  isStep sched s .aStart i = true ∧ FirstStepAfter sched s .aStop i j

/-- The premise BlankingShort on a schedule: "fewer than PWM_PERIOD ticks occur between the A_STOP step and the A_START
step of any one update" (R141). A premise a claim may take, no rule of the hardware. -/
def BlankingShort (sched : Nat → Event) (s : State) : Prop :=
  ∀ i j, BlankingInterval sched s i j → tickCount (eventsBetween sched i j) < s.pwmPeriod.ticks.toNat

/-- The premise UpdatesInfrequent on a schedule: "between the A_START step of one update and the A_STOP step of the next,
at least some stated number N of whole PWM cycles elapse", N being `cycles` (R141). A premise a claim may take, no rule
of the hardware. -/
def UpdatesInfrequent (cycles : Nat) (sched : Nat → Event) (s : State) : Prop :=
  ∀ i j, ShowingInterval sched s i j → cycles * s.pwmPeriod.ticks.toNat ≤ tickCount (eventsBetween sched i j)

end Sys2Proof.Machine
end

