-- ==== Sys2Proof/Certificates/Slice0/Obligations.lean ====
section
/-! DEFINITION. The statements for the provers. Each cites the rule of spec/ it formalises; where a clause rests on a
choice of the model, its docstring names the log entry. -/

open Sys2Proof Sys2Proof.Machine

/-! ## Encodings -/

/-- Every instruction survives encoding and decoding, with every operand at every value (R41, R44, R46). -/
def Obligations.DecodeInvertsEncode : Prop := ∀ i : Instr, decode (encode i) = .ok i

/-- Each raw form has one meaning: what decodes to `i` is the encoding of `i` (R42, R44, R46). -/
def Obligations.EncodeInvertsDecode : Prop := ∀ (x : Encoded) (i : Instr), decode x = .ok i → encode i = x

/-- R41, for the byte the sequencer fetches: `c` is the byte shifted right by four, `b` the byte masked with 0x0F, and
the byte is `16 * c + b`. -/
def Obligations.FetchedByteIsLightOfItsNibbles : Prop :=
  ∀ s : State, s.phase = .idle → s.rxPending = true →
    ∃ c b : Nibble, sequencerInstr s = some (.light c b) ∧ c.toNat = s.rxLatch.toNat / 16 ∧
      b.toNat = s.rxLatch.toNat % 16 ∧ s.rxLatch.toNat = 16 * c.toNat + b.toNat

/-- R44, R47 with the levels and bit order of G1 (PRESUMED, log 9): the frame in time order is a 0, the byte's bits 0
to 7, a 1; with a 0 in the stop position it is refused (R45). -/
def Obligations.FrameBitsInTimeOrder : Prop :=
  ∀ d : Byte,
    decodeLine [false, d.getLsbD 0, d.getLsbD 1, d.getLsbD 2, d.getLsbD 3, d.getLsbD 4, d.getLsbD 5, d.getLsbD 6,
      d.getLsbD 7, true] = .ok (.rxframe d) ∧
    decodeLine [false, d.getLsbD 0, d.getLsbD 1, d.getLsbD 2, d.getLsbD 3, d.getLsbD 4, d.getLsbD 5, d.getLsbD 6,
      d.getLsbD 7, false] = .error .framingError

/-- A few words written out from the encodings of R40, R44 and R46. -/
def Obligations.SpecWordsDecode : Prop :=
  decodeByte 0x78 = .light 7 8 ∧ decodeByte 0x1E = .light 1 14 ∧ decodeByte 0x8F = .light 8 15 ∧
  decodeFrame 0b1011110000 = .ok (.rxframe 0x78) ∧ decodeFrame 0b0011110000 = .error .framingError ∧
  decode (.strobe .indSet 1) = .ok (.indSet true) ∧ decode (.strobe .indSet 2) = .error .payloadTooWide ∧
  decode (.strobe .wrDutyA 840) = .ok (.wrDutyA 840)

/-! ## Fetching and stepping -/

/-- One step is one event: the head of the script, or, the script being empty, a free choice (R8; log 1). -/
def Obligations.StepPerformsOneEvent : Prop :=
  (∀ (s : State) (e : Event) (rest : List Event), s.script = e :: rest →
    step s = perform e { s with script := rest }) ∧
  (∀ s : State, s.script = [] →
    step s = perform (Config.freeEvent s.draws) { s with draws := s.draws + 1 })

/-- A sequencer step runs the instruction the sequencer fetches (R17, R90), a well-formed frame's step runs the
instruction the frame decodes to (R100, R110); around it the step only takes the event off the script (log 1). -/
def Obligations.StepRunsTheFetchedInstruction : Prop :=
  (∀ (s : State) (i : Instr) (rest : List Event), s.script = .seq :: rest → sequencerInstr s = some i →
    step s = exec i { s with script := rest }) ∧
  (∀ (s : State) (f : LineFrame) (i : Instr) (rest : List Event), s.script = .line f :: rest →
    decodeFrame f = .ok i → step s = exec i { s with script := rest })

/-- Running the host's machine through a script is performing the script's events in order. R48 gives the notation of a
script; that the machine holds the events still to come in State.script is the model's form of R8 (DESIGN CHOICE,
log 1). -/
def Obligations.RunOfAScriptIsItsEvents : Prop :=
  ∀ (es rest : List Event) (s : State), s.script = es ++ rest →
    Host.Core.run Sys2Proof.core es.length s = performAll es { s with script := rest }

/-- A placed opcode-table word is what the next step runs (log 10, log 11). -/
def Obligations.PlacedWordRunsNext : Prop :=
  ∀ (s : State) (nbits w : Nat) (i : Instr), decodeTableWord nbits w = some i →
    step (s.withFetchWord nbits w) = exec i { s.withFetchWord nbits w with script := s.script }

/-! ## The instructions -/

/-- R88, with the arithmetic of R50: in IDLE with a byte pending, the sequencer's step, which is LIGHT of the byte's
two fields, copies the byte, clears the flag, stores the pair and goes to A_IND; the range check is never taken (R117).
Nothing else changes, so neither do the pins. -/
def Obligations.TakeStepStoresTheDutyPair : Prop :=
  ∀ s : State, s.phase = .idle → s.rxPending = true →
    ∃ t : State,
      exec (.light (codeField s.rxLatch) (levelField s.rxLatch)) s = .next t ∧ perform .seq s = .next t ∧
      t = { s with curByte := s.rxLatch, rxPending := false, cool := t.cool, warm := t.warm, phase := .aInd } ∧
      (let P := s.pwmPeriod.ticks.toNat
       let c := s.rxLatch.toNat / 16
       let b := s.rxLatch.toNat % 16
       t.warm.toNat = (P + 1) / 15 * b - (P + 1) / 225 * c * b ∧
       t.cool.toNat = (P + 1) / 15 * b - t.warm.toNat) ∧
      t.pins = s.pins

/-- LIGHT with any operands, where the take is enabled: the byte stored is `16 * c + b` (R41, R88); elsewhere it changes
nothing ("State written: none by the operation itself", R50; DEDUCED, log 3). -/
def Obligations.LightWithAnyOperands : Prop :=
  ∀ (c b : Nibble) (s : State),
    (s.phase = .idle ∧ s.rxPending = true →
      ∃ t : State, exec (.light c b) s = .next t ∧ t.curByte.toNat = 16 * c.toNat + b.toNat ∧
        t = { s with curByte := t.curByte, rxPending := false, phase := .aInd,
                     cool := (lightDuties s.pwmPeriod c b).cool, warm := (lightDuties s.pwmPeriod c b).warm }) ∧
    (¬ (s.phase = .idle ∧ s.rxPending = true) → exec (.light c b) s = .next s)

/-- R100: a received byte goes to the mailbox, in every state, and nothing else changes, the pins among it. -/
def Obligations.ReceiveStepLatchesTheByte : Prop :=
  ∀ (d : Byte) (s : State),
    exec (.rxframe d) s = .next { s with rxLatch := d, rxPending := true } ∧
    perform (.line (frameOf d)) s = .next { s with rxLatch := d, rxPending := true } ∧
    { s with rxLatch := d, rxPending := true }.pins = s.pins

/-- R85: `IND <- on`, and with it PIN_IND; nothing else but, in A_IND, PHASE (R89). That PHASE stays outside A_IND is
the model's choice (DESIGN CHOICE, log 4). -/
def Obligations.IndSetDrivesTheIndicator : Prop :=
  ∀ (on : Bool) (s : State),
    (s.phase ≠ .aInd → exec (.indSet on) s = .next { s with ind := on }) ∧
    (s.phase = .aInd → exec (.indSet on) s = .next { s with ind := on, phase := .aStop }) ∧
    { s with ind := on }.pinInd = on ∧ (s.ind = on → { s with ind := on } = s)

/-- R89 with R86: the A_IND step writes `IND <- (CUR_BYTE[3:0] != 0)` and leaves the timer and the channels alone. -/
def Obligations.IndicatorStepShowsTheCommand : Prop :=
  ∀ s : State, s.phase = .aInd →
    perform .seq s = .next { s with ind := decide (s.curByte.toNat % 16 ≠ 0), phase := .aStop }

/-- R66: `OUT_EN <- 0; PHASE <- A_PERIOD`; both channel pins are then at 1, whatever CNT and the duties hold. -/
def Obligations.OutDisableBlanksTheChannels : Prop :=
  ∀ s : State, s.phase = .aStop →
    sequencerInstr s = some .outDisable ∧
    exec .outDisable s = .next { s with outEn := false, phase := .aPeriod } ∧
    { s with outEn := false, phase := .aPeriod }.pinA = true ∧
    { s with outEn := false, phase := .aPeriod }.pinB = true

/-- R67: `PERIOD <- v; PHASE <- A_DUTY_A` for any 16-bit `v`; the sequencer supplies PWM_PERIOD, which never changes the
value. -/
def Obligations.WrPeriodReloadsThePeriod : Prop :=
  ∀ s : State, s.phase = .aPeriod →
    (∀ v : Word, exec (.wrPeriod v) s = .next { s with period := v, phase := .aDutyA }) ∧
    sequencerInstr s = some (.wrPeriod s.pwmPeriod.ticks) ∧
    (Inv s → perform .seq s = .next { s with phase := .aDutyA })

/-- R68: `DUTY_A <- COOL; PHASE <- A_DUTY_B`, whole and for any value; the channels stay blanked. -/
def Obligations.WrDutyALoadsCool : Prop :=
  ∀ s : State, s.phase = .aDutyA →
    (∀ v : Word, exec (.wrDutyA v) s = .next { s with dutyA := v, phase := .aDutyB }) ∧
    sequencerInstr s = some (.wrDutyA s.cool) ∧
    (Inv s → s.outEn = false ∧ s.pinA = true ∧ { s with dutyA := s.cool, phase := .aDutyB }.pinA = true)

/-- R69: `DUTY_B <- WARM; PHASE <- A_START`, whole and for any value; the channels stay blanked. -/
def Obligations.WrDutyBLoadsWarm : Prop :=
  ∀ s : State, s.phase = .aDutyB →
    (∀ v : Word, exec (.wrDutyB v) s = .next { s with dutyB := v, phase := .aStart }) ∧
    sequencerInstr s = some (.wrDutyB s.warm) ∧
    (Inv s → s.outEn = false ∧ s.pinB = true ∧ { s with dutyB := s.warm, phase := .aStart }.pinB = true)

/-- R70: `OUT_EN <- 1; PHASE <- IDLE`; each pin then follows its comparator at whatever value CNT has. -/
def Obligations.OutEnableEndsTheUpdate : Prop :=
  ∀ s : State, s.phase = .aStart →
    sequencerInstr s = some .outEnable ∧
    exec .outEnable s = .next { s with outEn := true, phase := .idle } ∧
    { s with outEn := true, phase := .idle }.pinA = !decide (s.cnt.toNat < s.dutyA.toNat) ∧
    { s with outEn := true, phase := .idle }.pinB = !decide (s.cnt.toNat < s.dutyB.toNat)

/-- A strobe outside its phase writes its register and leaves PHASE alone: the model's choice (DESIGN CHOICE, log 4). -/
def Obligations.StrobeOutsideItsPhaseKeepsThePhase : Prop :=
  ∀ (s : State) (v : Word),
    (s.phase ≠ .aStop → exec .outDisable s = .next { s with outEn := false }) ∧
    (s.phase ≠ .aPeriod → exec (.wrPeriod v) s = .next { s with period := v }) ∧
    (s.phase ≠ .aDutyA → exec (.wrDutyA v) s = .next { s with dutyA := v }) ∧
    (s.phase ≠ .aDutyB → exec (.wrDutyB v) s = .next { s with dutyB := v }) ∧
    (s.phase ≠ .aStart → exec .outEnable s = .next { s with outEn := true })

/-- The frame of all eight instructions (R10's column "owner", R33, R36, R97): each register changes only under the
instruction that owns it; the counter, the hardwired constants, PWM_PERIOD and the schedule change under none. -/
def Obligations.InstructionFrames : Prop :=
  ∀ (i : Instr) (s t : State), exec i s = .next t →
    t.cnt = s.cnt ∧ t.pol = s.pol ∧ t.idleLevel = s.idleLevel ∧ t.pwmPeriod = s.pwmPeriod ∧ t.script = s.script ∧
    t.draws = s.draws ∧
    ((∀ d, i ≠ .rxframe d) → t.rxLatch = s.rxLatch) ∧
    ((∀ d, i ≠ .rxframe d) → (∀ c b, i ≠ .light c b) → t.rxPending = s.rxPending) ∧
    ((∀ c b, i ≠ .light c b) → t.curByte = s.curByte ∧ t.cool = s.cool ∧ t.warm = s.warm) ∧
    ((∀ on, i ≠ .indSet on) → t.ind = s.ind) ∧
    ((∀ v, i ≠ .wrPeriod v) → t.period = s.period) ∧
    ((∀ v, i ≠ .wrDutyA v) → t.dutyA = s.dutyA) ∧
    ((∀ v, i ≠ .wrDutyB v) → t.dutyB = s.dutyB) ∧
    (i ≠ .outDisable → i ≠ .outEnable → t.outEn = s.outEn) ∧
    ((∃ d, i = .rxframe d) → t.phase = s.phase)

/-- The frame of the agents (R36, R97, R100, R135, R140): a tick writes CNT alone, a line event the mailbox alone, a
sequencer step neither CNT nor RX_LATCH, and no event, reset among them, changes PWM_PERIOD. -/
def Obligations.AgentFrames : Prop :=
  ∀ (e : Event) (s t : State), perform e s = .next t →
    t.pwmPeriod = s.pwmPeriod ∧ t.script = s.script ∧ t.draws = s.draws ∧
    (e = .tick → t = { s with cnt := t.cnt }) ∧
    (∀ f, e = .line f → t = { s with rxLatch := t.rxLatch, rxPending := t.rxPending }) ∧
    (e = .seq → t.cnt = s.cnt ∧ t.rxLatch = s.rxLatch ∧ t.pol = s.pol ∧ t.idleLevel = s.idleLevel ∧
      (t.rxPending = true → s.rxPending = true))

/-! ## The duty-cycle decoder -/

/-- R50: the formula, in naturals with truncating division, neither subtraction going below zero and neither result
losing bits, with the corner cases and the worked example. -/
def Obligations.LightComputesTheFormula : Prop :=
  (∀ (p : PwmPeriod) (c b : Nibble),
    let P := p.ticks.toNat
    let U := (P + 1) / 15
    let K := (P + 1) / 225
    let r := lightDuties p c b
    K * c.toNat * b.toNat ≤ U * b.toNat ∧
    r.warm.toNat + K * c.toNat * b.toNat = U * b.toNat ∧ r.cool.toNat + r.warm.toNat = U * b.toNat ∧
    (b = 0 → r = ⟨0, 0⟩) ∧ (c = 0 → r.cool = 0 ∧ r.warm.toNat = U * b.toNat) ∧
    (P + 1 < 15 → r = ⟨0, 0⟩) ∧ (15 ≤ P + 1 ∧ P + 1 < 225 → r.cool = 0)) ∧
  lightDuties Config.pwmPeriod 15 15 = ⟨3375, 0⟩ ∧ lightDuties Config.pwmPeriod 7 8 = ⟨840, 960⟩

/-- R54: the closed form `coolDuty = K*c*b`, `warmDuty = U*b - K*c*b = b*(U - K*c)`, for every period and code. -/
def Obligations.DutiesInClosedForm : Prop :=
  ∀ P c b : Nat, c ≤ 15 → coolDuty P c b = (P + 1) / 225 * c * b ∧
    warmDuty P c b = (P + 1) / 15 * b - (P + 1) / 225 * c * b ∧
    warmDuty P c b = b * ((P + 1) / 15 - (P + 1) / 225 * c)

/-- R56: `15*K <= U` for every period, so neither subtraction of R50 goes below zero: what it takes away and what it
leaves add up to what it takes from. -/
def Obligations.NoUnderflow : Prop :=
  ∀ P : Nat, 15 * codeDuty P ≤ unitDuty P ∧
    ∀ c b : Nat, c ≤ 15 →
      warmDuty P c b + codeDuty P * c * b = unitDuty P * b ∧ coolDuty P c b + warmDuty P c b = unitDuty P * b

/-- The range of R57, for every byte and every legal period, and when its bound `P + 1` is attained. R57 says "exactly
when 15 divides P + 1 and b = 15 and either c = 0 ... or c = 15 and 225 divides P + 1"; below `P + 1 = 225` the code has
no effect (R63) and every code attains it, which the third alternative adds (log 17). -/
def Obligations.DutyRange : Prop :=
  ∀ (p : PwmPeriod) (c b : Nibble),
    let P := p.ticks.toNat
    let U := (P + 1) / 15
    let r := lightDuties p c b
    r.cool.toNat ≤ U * b.toNat ∧ r.warm.toNat ≤ U * b.toNat ∧ U * b.toNat ≤ 15 * U ∧ 15 * U ≤ P + 1 ∧
    P + 1 ≤ 65535 ∧
    (r.cool.toNat = P + 1 ∨ r.warm.toNat = P + 1 ↔
      15 ∣ P + 1 ∧ b = 15 ∧ (c = 0 ∨ (c = 15 ∧ 225 ∣ P + 1) ∨ P + 1 < 225))

/-- R57's "attained exactly when", word for word: it FAILS, at every legal period below 224 for which 15 divides P + 1
(P = 14, byte 0x1F gives warmDuty = 15, as 95_test_vectors.md section 3.2 also says). See log 17. -/
def Obligations.BoundAttainedAsWorded : Prop :=
  ∀ (p : PwmPeriod) (c b : Nibble),
    (lightDuties p c b).cool.toNat = p.ticks.toNat + 1 ∨ (lightDuties p c b).warm.toNat = p.ticks.toNat + 1 ↔
      15 ∣ p.ticks.toNat + 1 ∧ b = 15 ∧ (c = 0 ∨ (c = 15 ∧ 225 ∣ p.ticks.toNat + 1))

/-- R58: conservation, tolerance zero, independent of the code. -/
def Obligations.DutiesConserveBrightness : Prop :=
  ∀ (p : PwmPeriod) (c b : Nibble),
    (lightDuties p c b).cool.toNat + (lightDuties p c b).warm.toNat = (p.ticks.toNat + 1) / 15 * b.toNat

/-- R59: brightness 0 is off whatever the code; a non-zero brightness is not, when `P + 1 >= 15`. -/
def Obligations.BrightnessZeroIsOff : Prop :=
  ∀ (p : PwmPeriod) (c b : Nibble),
    (b = 0 → lightDuties p c b = ⟨0, 0⟩) ∧
    (15 ≤ p.ticks.toNat + 1 → b ≠ 0 → 0 < (lightDuties p c b).cool.toNat + (lightDuties p c b).warm.toNat)

/-- R60: for fixed `b`, coolDuty does not fall and warmDuty does not rise with the code, strictly when `b > 0` and
`K > 0`; for fixed `c` both do not fall with the brightness. -/
def Obligations.DutiesAreMonotone : Prop :=
  ∀ (p : PwmPeriod) (c c' b b' : Nibble),
    (c.toNat ≤ c'.toNat → (lightDuties p c b).cool.toNat ≤ (lightDuties p c' b).cool.toNat ∧
      (lightDuties p c' b).warm.toNat ≤ (lightDuties p c b).warm.toNat) ∧
    (c.toNat < c'.toNat → 0 < b.toNat → 0 < (p.ticks.toNat + 1) / 225 →
      (lightDuties p c b).cool.toNat < (lightDuties p c' b).cool.toNat ∧
      (lightDuties p c' b).warm.toNat < (lightDuties p c b).warm.toNat) ∧
    (b.toNat ≤ b'.toNat → (lightDuties p c b).cool.toNat ≤ (lightDuties p c b').cool.toNat ∧
      (lightDuties p c b).warm.toNat ≤ (lightDuties p c b').warm.toNat)

/-- R64: the bounds of the intermediates, and "an implementation with 16-bit unsigned arithmetic throughout never
wraps": it computes the same pair. -/
def Obligations.SixteenBitArithmeticSuffices : Prop :=
  ∀ (p : PwmPeriod) (c b : Nibble),
    let P := p.ticks.toNat
    P + 1 ≤ 65535 ∧ (P + 1) / 15 ≤ 4369 ∧ (P + 1) / 225 ≤ 291 ∧ c.toNat * b.toNat ≤ 225 ∧
    (P + 1) / 15 * b.toNat ≤ 65535 ∧ (P + 1) / 225 * c.toNat * b.toNat ≤ 65475 ∧
    (let base : Word := (p.ticks + 1) / 15 * b.setWidth 16
     let warm : Word := base - (p.ticks + 1) / 225 * c.setWidth 16 * b.setWidth 16
     lightDuties p c b = ⟨base - warm, warm⟩)

/-! ## The sequencer and the one exception -/

/-- R90: the sequencer's table, each enabled row with its next phase, and that nothing but a sequencer step or reset
changes PHASE. -/
def Obligations.SequencerFollowsItsTable : Prop :=
  (∀ s : State,
    (s.seqEnabled = true ↔ s.phase ≠ .halt ∧ (s.phase = .idle → s.rxPending = true)) ∧
    (s.seqEnabled = true → ∃ (i : Instr) (t : State), sequencerInstr s = some i ∧ exec i s = .next t ∧
      perform .seq s = .next t ∧
      t.phase = (match s.phase with
        | .idle => .aInd
        | .aInd => .aStop
        | .aStop => .aPeriod
        | .aPeriod => .aDutyA
        | .aDutyA => .aDutyB
        | .aDutyB => .aStart
        | .aStart => .idle
        | .halt => .halt))) ∧
  (∀ (e : Event) (s t : State), e ≠ .seq → e ≠ .reset → perform e s = .next t → t.phase = s.phase)

/-- Where the sequencer has no step (R99, R116): in IDLE with nothing pending it changes nothing (log 6), in HALT the
model stops by name (log 5). -/
def Obligations.SequencerWithoutAStep : Prop :=
  ∀ s : State, (s.phase = .idle → s.rxPending = false → perform .seq s = .next s) ∧
    (s.phase = .halt → perform .seq s = .fault .halted)

/-- R115: the range check of the take step, for any candidate pair: RangeViolation is raised exactly when a duty is above
`PWM_PERIOD + 1`, and its effect is `PHASE <- HALT`. The take's other writes are done (R122). -/
def Obligations.RangeViolationEntersHalt : Prop :=
  ∀ (s : State) (byte : Byte) (d : DutyPair),
    s.takeByte byte d = { s with
      curByte := byte, rxPending := false, cool := d.cool, warm := d.warm,
      phase := if d.cool.toNat > s.pwmPeriod.ticks.toNat + 1 ∨ d.warm.toNat > s.pwmPeriod.ticks.toNat + 1
        then .halt else .aInd }

/-- R117: for every control byte and legal period the condition of R115 is false, and no reachable state is halted. -/
def Obligations.RangeViolationCannotOccur : Prop :=
  (∀ (p : PwmPeriod) (c b : Nibble),
    ¬ ((lightDuties p c b).cool.toNat > p.ticks.toNat + 1 ∨ (lightDuties p c b).warm.toNat > p.ticks.toNat + 1)) ∧
  ∀ s : State, Reachable s → s.phase ≠ .halt

/-- R116: a halted block stays halted under every schedule without a reset, its outputs' registers unchanged, while
ticks and receive steps go on; a schedule with a sequencer step in it stops by name (log 5); reset leaves HALT. -/
def Obligations.HaltIsAbsorbing : Prop :=
  ∀ s : State, s.phase = .halt →
    (∀ (es : List Event) (t : State), .reset ∉ es → performAll es s = .next t →
      t.phase = .halt ∧ t.ind = s.ind ∧ t.period = s.period ∧ t.dutyA = s.dutyA ∧ t.dutyB = s.dutyB ∧
      t.outEn = s.outEn) ∧
    (∀ es : List Event, .reset ∉ es → .seq ∉ es → ∃ t, performAll es s = .next t) ∧
    (∀ es : List Event, .reset ∉ es → .seq ∈ es → performAll es s = .fault .halted) ∧
    ∃ t, perform .reset s = .next t ∧ t.phase = .idle

/-! ## An update from end to end -/

/-- R92 and R94: from any state with a byte pending in IDLE, the take and six further sequencer steps, with any ticks,
received bytes and transmit events between, end in IDLE showing the byte; fewer do not reach IDLE. -/
def Obligations.UpdateTakesSevenSteps : Prop :=
  ∀ (s : State) (es : List Event), s.phase = .idle → s.rxPending = true → .reset ∉ es →
    (seqCount es = 6 → ∃ t, performAll (.seq :: es) s = .next t ∧ t.phase = .idle ∧ Shows t s.rxLatch) ∧
    (seqCount es < 6 → ∃ t, performAll (.seq :: es) s = .next t ∧ t.phase.updating = true ∧ t.curByte = s.rxLatch)

/-- R48's `send`, R94, R95, R61: from any state that is not halted, sending a byte ends in a quiescent state showing it,
and sending it again leaves the identical state. R48's `run` stops at quiescence; the thirteen steps of `runEvents` go on
there, where a sequencer step does nothing (DEDUCED, log 6). -/
def Obligations.SendingAByteShowsItTwiceAlike : Prop :=
  ∀ (s : State) (c b : Nibble), s.phase ≠ .halt →
    ∃ t, performAll (sendEvents c b) s = .next t ∧ t.quiescent = true ∧ Shows t (byteOf c b) ∧
      performAll (sendEvents c b) t = .next t

/-- R102: under weak fairness of the sequencer, if no further byte arrives and the block is not reset, a pending byte's
outputs are shown from some time on, in IDLE with nothing pending. -/
def Obligations.NewestByteWins : Prop :=
  ∀ (s : State) (sched : Nat → Event), Inv s → s.rxPending = true → (∀ n, (sched n).quiet = true) →
    WeakFair sched s →
    ∃ N, ∀ n, N ≤ n → ∃ t, performAll (firstEvents sched n) s = .next t ∧ t.quiescent = true ∧ Shows t s.rxLatch

/-- R146: thirteen sequencer steps, with no byte arriving and no reset, reach a quiescent state. Where fewer reach it,
those left over do nothing (DEDUCED, log 6). -/
def Obligations.QuiescentWithinThirteenSteps : Prop :=
  ∀ (s : State) (es : List Event), s.phase ≠ .halt → (∀ e ∈ es, e.quiet = true) → 13 ≤ seqCount es →
    ∃ t, performAll es s = .next t ∧ t.quiescent = true

/-- R99, R146: in a quiescent state, until a byte arrives or the block is reset, no register but CNT changes, under any
schedule. -/
def Obligations.QuiescentStateOnlyCounts : Prop :=
  ∀ (s : State) (es : List Event), s.quiescent = true → (∀ e ∈ es, e.quiet = true) →
    ∃ t, performAll es s = .next t ∧ t = { s with cnt := t.cnt }

/-- R134: until a first byte arrives, whatever else happens, the pins stay at their reset levels. -/
def Obligations.NoByteNoLight : Prop :=
  ∀ (p : PwmPeriod) (es : List Event), receivedBytes es = [] →
    ∃ t, performAll es (State.resetFor p) = .next t ∧ t.pins = (true, true, false) ∧ t.quiescent = true

/-! ## The receiver -/

/-- R101: with no take and no reset between, the mailbox holds the last byte received, and is pending if any was. -/
def Obligations.LastByteReceivedIsInTheMailbox : Prop :=
  ∀ (es : List Event) (s : State), .seq ∉ es → .reset ∉ es →
    ∃ t, performAll es s = .next t ∧ t.rxLatch = ((receivedBytes es).getLast?).getD s.rxLatch ∧
      t.rxPending = (s.rxPending || !(receivedBytes es).isEmpty)

/-- R108: the bytes taken are a subsequence, in order, of the byte waiting at the start and the bytes received. -/
def Obligations.TakenBytesAreReceivedInOrder : Prop :=
  ∀ (es : List Event) (s : State),
    (takenBytes es s).Sublist ((if s.rxPending then [s.rxLatch] else []) ++ receivedBytes es)

/-- R45 and R106: a frame with a 0 in its stop position delivers no byte, `tx_ready` has no effect. -/
def Obligations.NothingDeliveredNothingChanged : Prop :=
  ∀ s : State, (∀ f : LineFrame, f.getLsbD 9 = false → perform (.line f) s = .next s) ∧
    perform .txReady s = .next s

/-- R120 (a), (b): a line event and a step of an update in progress can be exchanged; of a receive step and a take, in
either order, the newest byte is not lost: it is the one taken, or it is pending. -/
def Obligations.ReceiveStepInterleavings : Prop :=
  (∀ (s : State) (f : LineFrame), s.phase ≠ .idle →
    performAll [.line f, .seq] s = performAll [.seq, .line f] s) ∧
  (∀ (s : State) (d : Byte), s.phase = .idle → s.rxPending = true →
    (∃ t, performAll [.line (frameOf d), .seq] s = .next t ∧ t.curByte = d ∧ t.rxPending = false) ∧
    (∃ t, performAll [.seq, .line (frameOf d)] s = .next t ∧ t.curByte = s.rxLatch ∧ t.rxLatch = d ∧
      t.rxPending = true))

/-! ## The timer and the pins -/

/-- R72 and R84: the tick, in every state, and where it goes from counts the block never reaches. -/
def Obligations.TickAdvancesTheCounter : Prop :=
  ∀ s : State, ∃ t, perform .tick s = .next t ∧ t = { s with cnt := t.cnt } ∧
    t.cnt.toNat = (if s.cnt.toNat + 1 ≥ s.period.toNat then 0 else s.cnt.toNat + 1) ∧
    (s.period = 0 ∨ s.period.toNat ≤ s.cnt.toNat → t.cnt = 0)

/-- R72, R79: along every schedule without a reset the counter counts the ticks modulo the period, whatever update is in
progress. So between the A_STOP step and the A_START step of one update, where both channel pins are at 1 (R78), it wraps
at most once under the premise BlankingShort of R141. -/
def Obligations.CounterCountsTicksThroughUpdates : Prop :=
  (∀ (s t : State) (es : List Event), Inv s → .reset ∉ es → performAll es s = .next t →
    t.cnt.toNat = (s.cnt.toNat + tickCount es) % s.period.toNat) ∧
  (∀ (s : State) (sched : Nat → Event) (i j : Nat), Inv s → BlankingInterval sched s i j →
    ∃ t u, performAll (firstEvents sched i) s = .next t ∧ performAll (firstEvents sched j) s = .next u ∧
      (∀ k v, i < k → k ≤ j → performAll (firstEvents sched k) s = .next v → v.pinA = true ∧ v.pinB = true) ∧
      (BlankingShort sched s →
        u.cnt.toNat = t.cnt.toNat + tickCount (eventsBetween sched i j) ∨
        u.cnt.toNat + s.pwmPeriod.ticks.toNat = t.cnt.toNat + tickCount (eventsBetween sched i j)))

/-- A tick and a sequencer step can be exchanged in every state of the invariant: the sequencer neither reads nor writes
CNT (R97), the tick reads PERIOD alone (R120 (c), (d)). -/
def Obligations.TickCommutesWithTheSequencer : Prop :=
  ∀ s : State, Inv s → performAll [.tick, .seq] s = performAll [.seq, .tick] s

/-- R73 and R74: `PIN_x = not lit_x`, `lit_x = (OUT_EN = 1) and (CNT < DUTY_x)` unsigned; the indicator pin is IND; and,
R76, neither channel's pin depends on the other's duty. -/
def Obligations.PinsFollowTheComparators : Prop :=
  ∀ s : State,
    s.litA = (s.outEn && decide (s.cnt.toNat < s.dutyA.toNat)) ∧
    s.litB = (s.outEn && decide (s.cnt.toNat < s.dutyB.toNat)) ∧
    s.pins = (!s.litA, !s.litB, s.ind) ∧
    ∀ v : Word, { s with dutyB := v }.pinA = s.pinA ∧ { s with dutyA := v }.pinB = s.pinB

/-- R75: while the outputs are enabled and the registers are not being rewritten, over one cycle of ticks from any phase
of the counter, with any line and transmit events between, each channel is lit for `min(DUTY_x, PERIOD)` ticks; a duty of
0 is never lit, a duty of the period or more always. -/
def Obligations.LitTicksPerCycle : Prop :=
  ∀ (s : State) (es : List Event), s.outEn = true → s.cnt.toNat < s.period.toNat → .seq ∉ es → .reset ∉ es →
    (tickCount es = s.period.toNat →
      litTicks State.litA es s = min s.dutyA.toNat s.period.toNat ∧
      litTicks State.litB es s = min s.dutyB.toNat s.period.toNat) ∧
    ∃ t, performAll es s = .next t ∧
      (s.dutyA = 0 → t.litA = false) ∧ (s.dutyB = 0 → t.litB = false) ∧
      (s.period.toNat ≤ s.dutyA.toNat → t.litA = true) ∧ (s.period.toNat ≤ s.dutyB.toNat → t.litB = true)

/-- R75 under the premise UpdatesInfrequent of R141: from the A_START step of one update to the A_STOP step of the next
the byte is shown, and each channel has at least `cycles` full shares of lit ticks. -/
def Obligations.InfrequentUpdatesShowWholeCycles : Prop :=
  ∀ (s : State) (sched : Nat → Event) (cycles i j : Nat), Inv s → UpdatesInfrequent cycles sched s →
    ShowingInterval sched s i j → .reset ∉ eventsBetween sched i j →
    ∃ t, performAll (firstEvents sched (i + 1)) s = .next t ∧ t.phase = .idle ∧ Shows t t.curByte ∧
      cycles * min t.dutyA.toNat t.period.toNat ≤ litTicks State.litA (eventsBetween sched i j) t ∧
      cycles * min t.dutyB.toNat t.period.toNat ≤ litTicks State.litB (eventsBetween sched i j) t

/-- R82: from a tick at which CNT = 0 each pin is 0 for the first `min(DUTY_x, PERIOD)` ticks of every cycle and 1 for
the rest; with the outputs disabled both pins are constantly 1. And between updates the pattern goes on for ever under
weak fairness of TMR, the second assumption of R139: every count, with the pins it gives, comes again and again. -/
def Obligations.SteadyStateWaveform : Prop :=
  (∀ (s : State) (n : Nat), 0 < s.period.toNat →
    ∃ t, performAll (List.replicate n .tick) s = .next t ∧
      (s.outEn = true → s.cnt = 0 →
        t.pinA = !decide (n % s.period.toNat < min s.dutyA.toNat s.period.toNat) ∧
        t.pinB = !decide (n % s.period.toNat < min s.dutyB.toNat s.period.toNat)) ∧
      (s.outEn = false → t.pinA = true ∧ t.pinB = true)) ∧
  (∀ (s : State) (sched : Nat → Event), s.quiescent = true → s.cnt.toNat < s.period.toNat →
    (∀ n, (sched n).quiet = true) → WeakFairTmr sched →
    ∀ (v : Word) (N : Nat), v.toNat < s.period.toNat →
      ∃ n t, N ≤ n ∧ performAll (firstEvents sched n) s = .next t ∧ t = { s with cnt := v } ∧
        t.pinA = !(s.outEn && decide (v.toNat < s.dutyA.toNat)) ∧
        t.pinB = !(s.outEn && decide (v.toNat < s.dutyB.toNat)))

/-- R77, no glitch, along every schedule from every state of the invariant: while the triple is being rewritten OUT_EN
is 0 and neither channel is lit; with OUT_EN = 0 both channel pins are at the idle level; with OUT_EN = 1 the triple is
the complete setting of one byte, never a mixture: of CUR_BYTE in IDLE, of the byte shown before in A_IND and A_STOP
(`shownByte`, which changes at A_START steps alone), and the pins are its comparators' outputs. `d` is the byte shown at
the start, if any is. -/
def Obligations.PinsShowIdleOrOneSetting : Prop :=
  ∀ (s t : State) (es : List Event) (d : Byte), Inv s →
    (s.outEn = true → DutyPair.mk s.dutyA s.dutyB = byteDuties s.pwmPeriod d ∧ (s.phase = .idle → d = s.curByte)) →
    performAll es s = .next t →
    (t.phase.rewriting = true → t.outEn = false ∧ t.litA = false ∧ t.litB = false) ∧
    (t.outEn = false → t.pinA = true ∧ t.pinB = true) ∧
    (t.outEn = true →
      t.period = t.pwmPeriod.ticks ∧
      DutyPair.mk t.dutyA t.dutyB = byteDuties t.pwmPeriod (shownByte es s d) ∧
      (t.phase = .idle → shownByte es s d = t.curByte) ∧
      t.pinA = !decide (t.cnt.toNat < (byteDuties t.pwmPeriod (shownByte es s d)).cool.toNat) ∧
      t.pinB = !decide (t.cnt.toNat < (byteDuties t.pwmPeriod (shownByte es s d)).warm.toNat))

/-- R143: DUTY_A, DUTY_B and PERIOD change only while the outputs are disabled, but for reset. -/
def Obligations.TimerRewrittenOnlyBehindTheGate : Prop :=
  ∀ (e : Event) (s t : State), Inv s → e ≠ .reset → perform e s = .next t →
    t.dutyA ≠ s.dutyA ∨ t.dutyB ≠ s.dutyB ∨ t.period ≠ s.period → s.outEn = false ∧ t.outEn = false

/-! ## Reset and the invariant -/

/-- R130 and R131: reset, at any time, in the middle of an update and in HALT too, puts every element for which R130
gives a value at it, and the pins at 1, 1, 0; so does power-on, with PWM_PERIOD = 3374 (R3). -/
def Obligations.ResetValues : Prop :=
  (∀ s : State, ∃ t, perform .reset s = .next t ∧ t.phase = .idle ∧ t.rxPending = false ∧ t.ind = false ∧
    t.period = s.pwmPeriod.ticks ∧ t.dutyA = 0 ∧ t.dutyB = 0 ∧ t.outEn = false ∧ t.cnt = 0 ∧ t.pol = .activeLow ∧
    t.idleLevel = .high ∧ t.pins = (true, true, false)) ∧
  (State.reset.phase = .idle ∧ State.reset.rxPending = false ∧ State.reset.ind = false ∧ State.reset.period = 3374 ∧
    State.reset.pwmPeriod.ticks = 3374 ∧ State.reset.dutyA = 0 ∧ State.reset.dutyB = 0 ∧ State.reset.outEn = false ∧
    State.reset.cnt = 0 ∧ State.reset.pol = .activeLow ∧ State.reset.idleLevel = .high ∧
    State.reset.pins = (true, true, false))

/-- The reset state of every legal period meets the invariant. -/
def Obligations.ResetMeetsTheInvariant : Prop := ∀ p : PwmPeriod, Inv (State.resetFor p)

/-- Every step keeps the invariant, whichever agent moves and whatever the line carries. -/
def Obligations.StepKeepsTheInvariant : Prop := ∀ s t : State, Inv s → step s = .next t → Inv t

/-- From a state of the invariant the machine never stops: every step answers a next state. -/
def Obligations.GoodStatesNeverStop : Prop := ∀ s : State, Inv s → ∃ t, step s = .next t

/-- R28: the six facts, in every state reachable from reset by any interleaving, for every legal PWM_PERIOD. -/
def Obligations.ReachableStateFacts : Prop :=
  ∀ s : State, Reachable s →
    s.period = s.pwmPeriod.ticks ∧ s.cnt.toNat < s.period.toNat ∧
    s.dutyA.toNat ≤ s.pwmPeriod.ticks.toNat + 1 ∧ s.dutyB.toNat ≤ s.pwmPeriod.ticks.toNat + 1 ∧
    (s.phase ≠ .aDutyB → s.dutyA.toNat + s.dutyB.toNat ≤ s.pwmPeriod.ticks.toNat + 1) ∧
    (s.phase = .aDutyB → s.outEn = false) ∧
    s.phase ≠ .halt ∧
    (s.phase = .aPeriod ∨ s.phase = .aDutyA ∨ s.phase = .aDutyB ∨ s.phase = .aStart → s.outEn = false)
end

