-- ==== Sys2Proof/Laws/State.lean ====
section
/-! SUPPORT. What each named write leaves in each field, one lemma per field per update, so that no proof unfolds a
record update. -/

namespace Sys2Proof.Machine

variable (s : State)

@[simp] theorem State.setPhase_rxLatch (p : Phase) : (s.setPhase p).rxLatch = s.rxLatch := rfl
@[simp] theorem State.setPhase_rxPending (p : Phase) : (s.setPhase p).rxPending = s.rxPending := rfl
@[simp] theorem State.setPhase_phase (p : Phase) : (s.setPhase p).phase = p := rfl
@[simp] theorem State.setPhase_curByte (p : Phase) : (s.setPhase p).curByte = s.curByte := rfl
@[simp] theorem State.setPhase_cool (p : Phase) : (s.setPhase p).cool = s.cool := rfl
@[simp] theorem State.setPhase_warm (p : Phase) : (s.setPhase p).warm = s.warm := rfl
@[simp] theorem State.setPhase_ind (p : Phase) : (s.setPhase p).ind = s.ind := rfl
@[simp] theorem State.setPhase_period (p : Phase) : (s.setPhase p).period = s.period := rfl
@[simp] theorem State.setPhase_dutyA (p : Phase) : (s.setPhase p).dutyA = s.dutyA := rfl
@[simp] theorem State.setPhase_dutyB (p : Phase) : (s.setPhase p).dutyB = s.dutyB := rfl
@[simp] theorem State.setPhase_outEn (p : Phase) : (s.setPhase p).outEn = s.outEn := rfl
@[simp] theorem State.setPhase_cnt (p : Phase) : (s.setPhase p).cnt = s.cnt := rfl
@[simp] theorem State.setPhase_pol (p : Phase) : (s.setPhase p).pol = s.pol := rfl
@[simp] theorem State.setPhase_idleLevel (p : Phase) : (s.setPhase p).idleLevel = s.idleLevel := rfl
@[simp] theorem State.setPhase_pwmPeriod (p : Phase) : (s.setPhase p).pwmPeriod = s.pwmPeriod := rfl
@[simp] theorem State.setPhase_script (p : Phase) : (s.setPhase p).script = s.script := rfl
@[simp] theorem State.setPhase_draws (p : Phase) : (s.setPhase p).draws = s.draws := rfl

@[simp] theorem State.latchByte_rxLatch (d : Byte) : (s.latchByte d).rxLatch = d := rfl
@[simp] theorem State.latchByte_rxPending (d : Byte) : (s.latchByte d).rxPending = true := rfl
@[simp] theorem State.latchByte_phase (d : Byte) : (s.latchByte d).phase = s.phase := rfl
@[simp] theorem State.latchByte_curByte (d : Byte) : (s.latchByte d).curByte = s.curByte := rfl
@[simp] theorem State.latchByte_cool (d : Byte) : (s.latchByte d).cool = s.cool := rfl
@[simp] theorem State.latchByte_warm (d : Byte) : (s.latchByte d).warm = s.warm := rfl
@[simp] theorem State.latchByte_ind (d : Byte) : (s.latchByte d).ind = s.ind := rfl
@[simp] theorem State.latchByte_period (d : Byte) : (s.latchByte d).period = s.period := rfl
@[simp] theorem State.latchByte_dutyA (d : Byte) : (s.latchByte d).dutyA = s.dutyA := rfl
@[simp] theorem State.latchByte_dutyB (d : Byte) : (s.latchByte d).dutyB = s.dutyB := rfl
@[simp] theorem State.latchByte_outEn (d : Byte) : (s.latchByte d).outEn = s.outEn := rfl
@[simp] theorem State.latchByte_cnt (d : Byte) : (s.latchByte d).cnt = s.cnt := rfl
@[simp] theorem State.latchByte_pol (d : Byte) : (s.latchByte d).pol = s.pol := rfl
@[simp] theorem State.latchByte_idleLevel (d : Byte) : (s.latchByte d).idleLevel = s.idleLevel := rfl
@[simp] theorem State.latchByte_pwmPeriod (d : Byte) : (s.latchByte d).pwmPeriod = s.pwmPeriod := rfl
@[simp] theorem State.latchByte_script (d : Byte) : (s.latchByte d).script = s.script := rfl
@[simp] theorem State.latchByte_draws (d : Byte) : (s.latchByte d).draws = s.draws := rfl

@[simp] theorem State.beginUpdate_rxLatch (y : Byte) (c w : Word) : (s.beginUpdate y c w).rxLatch = s.rxLatch := rfl
@[simp] theorem State.beginUpdate_rxPending (y : Byte) (c w : Word) : (s.beginUpdate y c w).rxPending = false := rfl
@[simp] theorem State.beginUpdate_phase (y : Byte) (c w : Word) : (s.beginUpdate y c w).phase = s.phase := rfl
@[simp] theorem State.beginUpdate_curByte (y : Byte) (c w : Word) : (s.beginUpdate y c w).curByte = y := rfl
@[simp] theorem State.beginUpdate_cool (y : Byte) (c w : Word) : (s.beginUpdate y c w).cool = c := rfl
@[simp] theorem State.beginUpdate_warm (y : Byte) (c w : Word) : (s.beginUpdate y c w).warm = w := rfl
@[simp] theorem State.beginUpdate_ind (y : Byte) (c w : Word) : (s.beginUpdate y c w).ind = s.ind := rfl
@[simp] theorem State.beginUpdate_period (y : Byte) (c w : Word) : (s.beginUpdate y c w).period = s.period := rfl
@[simp] theorem State.beginUpdate_dutyA (y : Byte) (c w : Word) : (s.beginUpdate y c w).dutyA = s.dutyA := rfl
@[simp] theorem State.beginUpdate_dutyB (y : Byte) (c w : Word) : (s.beginUpdate y c w).dutyB = s.dutyB := rfl
@[simp] theorem State.beginUpdate_outEn (y : Byte) (c w : Word) : (s.beginUpdate y c w).outEn = s.outEn := rfl
@[simp] theorem State.beginUpdate_cnt (y : Byte) (c w : Word) : (s.beginUpdate y c w).cnt = s.cnt := rfl
@[simp] theorem State.beginUpdate_pol (y : Byte) (c w : Word) : (s.beginUpdate y c w).pol = s.pol := rfl
@[simp] theorem State.beginUpdate_idleLevel (y : Byte) (c w : Word) : (s.beginUpdate y c w).idleLevel = s.idleLevel := rfl
@[simp] theorem State.beginUpdate_pwmPeriod (y : Byte) (c w : Word) : (s.beginUpdate y c w).pwmPeriod = s.pwmPeriod := rfl
@[simp] theorem State.beginUpdate_script (y : Byte) (c w : Word) : (s.beginUpdate y c w).script = s.script := rfl
@[simp] theorem State.beginUpdate_draws (y : Byte) (c w : Word) : (s.beginUpdate y c w).draws = s.draws := rfl

@[simp] theorem State.setInd_rxLatch (on : Bool) : (s.setInd on).rxLatch = s.rxLatch := rfl
@[simp] theorem State.setInd_rxPending (on : Bool) : (s.setInd on).rxPending = s.rxPending := rfl
@[simp] theorem State.setInd_phase (on : Bool) : (s.setInd on).phase = s.phase := rfl
@[simp] theorem State.setInd_curByte (on : Bool) : (s.setInd on).curByte = s.curByte := rfl
@[simp] theorem State.setInd_cool (on : Bool) : (s.setInd on).cool = s.cool := rfl
@[simp] theorem State.setInd_warm (on : Bool) : (s.setInd on).warm = s.warm := rfl
@[simp] theorem State.setInd_ind (on : Bool) : (s.setInd on).ind = on := rfl
@[simp] theorem State.setInd_period (on : Bool) : (s.setInd on).period = s.period := rfl
@[simp] theorem State.setInd_dutyA (on : Bool) : (s.setInd on).dutyA = s.dutyA := rfl
@[simp] theorem State.setInd_dutyB (on : Bool) : (s.setInd on).dutyB = s.dutyB := rfl
@[simp] theorem State.setInd_outEn (on : Bool) : (s.setInd on).outEn = s.outEn := rfl
@[simp] theorem State.setInd_cnt (on : Bool) : (s.setInd on).cnt = s.cnt := rfl
@[simp] theorem State.setInd_pol (on : Bool) : (s.setInd on).pol = s.pol := rfl
@[simp] theorem State.setInd_idleLevel (on : Bool) : (s.setInd on).idleLevel = s.idleLevel := rfl
@[simp] theorem State.setInd_pwmPeriod (on : Bool) : (s.setInd on).pwmPeriod = s.pwmPeriod := rfl
@[simp] theorem State.setInd_script (on : Bool) : (s.setInd on).script = s.script := rfl
@[simp] theorem State.setInd_draws (on : Bool) : (s.setInd on).draws = s.draws := rfl

@[simp] theorem State.setOutEn_rxLatch (on : Bool) : (s.setOutEn on).rxLatch = s.rxLatch := rfl
@[simp] theorem State.setOutEn_rxPending (on : Bool) : (s.setOutEn on).rxPending = s.rxPending := rfl
@[simp] theorem State.setOutEn_phase (on : Bool) : (s.setOutEn on).phase = s.phase := rfl
@[simp] theorem State.setOutEn_curByte (on : Bool) : (s.setOutEn on).curByte = s.curByte := rfl
@[simp] theorem State.setOutEn_cool (on : Bool) : (s.setOutEn on).cool = s.cool := rfl
@[simp] theorem State.setOutEn_warm (on : Bool) : (s.setOutEn on).warm = s.warm := rfl
@[simp] theorem State.setOutEn_ind (on : Bool) : (s.setOutEn on).ind = s.ind := rfl
@[simp] theorem State.setOutEn_period (on : Bool) : (s.setOutEn on).period = s.period := rfl
@[simp] theorem State.setOutEn_dutyA (on : Bool) : (s.setOutEn on).dutyA = s.dutyA := rfl
@[simp] theorem State.setOutEn_dutyB (on : Bool) : (s.setOutEn on).dutyB = s.dutyB := rfl
@[simp] theorem State.setOutEn_outEn (on : Bool) : (s.setOutEn on).outEn = on := rfl
@[simp] theorem State.setOutEn_cnt (on : Bool) : (s.setOutEn on).cnt = s.cnt := rfl
@[simp] theorem State.setOutEn_pol (on : Bool) : (s.setOutEn on).pol = s.pol := rfl
@[simp] theorem State.setOutEn_idleLevel (on : Bool) : (s.setOutEn on).idleLevel = s.idleLevel := rfl
@[simp] theorem State.setOutEn_pwmPeriod (on : Bool) : (s.setOutEn on).pwmPeriod = s.pwmPeriod := rfl
@[simp] theorem State.setOutEn_script (on : Bool) : (s.setOutEn on).script = s.script := rfl
@[simp] theorem State.setOutEn_draws (on : Bool) : (s.setOutEn on).draws = s.draws := rfl

@[simp] theorem State.setPeriod_rxLatch (v : Word) : (s.setPeriod v).rxLatch = s.rxLatch := rfl
@[simp] theorem State.setPeriod_rxPending (v : Word) : (s.setPeriod v).rxPending = s.rxPending := rfl
@[simp] theorem State.setPeriod_phase (v : Word) : (s.setPeriod v).phase = s.phase := rfl
@[simp] theorem State.setPeriod_curByte (v : Word) : (s.setPeriod v).curByte = s.curByte := rfl
@[simp] theorem State.setPeriod_cool (v : Word) : (s.setPeriod v).cool = s.cool := rfl
@[simp] theorem State.setPeriod_warm (v : Word) : (s.setPeriod v).warm = s.warm := rfl
@[simp] theorem State.setPeriod_ind (v : Word) : (s.setPeriod v).ind = s.ind := rfl
@[simp] theorem State.setPeriod_period (v : Word) : (s.setPeriod v).period = v := rfl
@[simp] theorem State.setPeriod_dutyA (v : Word) : (s.setPeriod v).dutyA = s.dutyA := rfl
@[simp] theorem State.setPeriod_dutyB (v : Word) : (s.setPeriod v).dutyB = s.dutyB := rfl
@[simp] theorem State.setPeriod_outEn (v : Word) : (s.setPeriod v).outEn = s.outEn := rfl
@[simp] theorem State.setPeriod_cnt (v : Word) : (s.setPeriod v).cnt = s.cnt := rfl
@[simp] theorem State.setPeriod_pol (v : Word) : (s.setPeriod v).pol = s.pol := rfl
@[simp] theorem State.setPeriod_idleLevel (v : Word) : (s.setPeriod v).idleLevel = s.idleLevel := rfl
@[simp] theorem State.setPeriod_pwmPeriod (v : Word) : (s.setPeriod v).pwmPeriod = s.pwmPeriod := rfl
@[simp] theorem State.setPeriod_script (v : Word) : (s.setPeriod v).script = s.script := rfl
@[simp] theorem State.setPeriod_draws (v : Word) : (s.setPeriod v).draws = s.draws := rfl

@[simp] theorem State.setDutyA_rxLatch (v : Word) : (s.setDutyA v).rxLatch = s.rxLatch := rfl
@[simp] theorem State.setDutyA_rxPending (v : Word) : (s.setDutyA v).rxPending = s.rxPending := rfl
@[simp] theorem State.setDutyA_phase (v : Word) : (s.setDutyA v).phase = s.phase := rfl
@[simp] theorem State.setDutyA_curByte (v : Word) : (s.setDutyA v).curByte = s.curByte := rfl
@[simp] theorem State.setDutyA_cool (v : Word) : (s.setDutyA v).cool = s.cool := rfl
@[simp] theorem State.setDutyA_warm (v : Word) : (s.setDutyA v).warm = s.warm := rfl
@[simp] theorem State.setDutyA_ind (v : Word) : (s.setDutyA v).ind = s.ind := rfl
@[simp] theorem State.setDutyA_period (v : Word) : (s.setDutyA v).period = s.period := rfl
@[simp] theorem State.setDutyA_dutyA (v : Word) : (s.setDutyA v).dutyA = v := rfl
@[simp] theorem State.setDutyA_dutyB (v : Word) : (s.setDutyA v).dutyB = s.dutyB := rfl
@[simp] theorem State.setDutyA_outEn (v : Word) : (s.setDutyA v).outEn = s.outEn := rfl
@[simp] theorem State.setDutyA_cnt (v : Word) : (s.setDutyA v).cnt = s.cnt := rfl
@[simp] theorem State.setDutyA_pol (v : Word) : (s.setDutyA v).pol = s.pol := rfl
@[simp] theorem State.setDutyA_idleLevel (v : Word) : (s.setDutyA v).idleLevel = s.idleLevel := rfl
@[simp] theorem State.setDutyA_pwmPeriod (v : Word) : (s.setDutyA v).pwmPeriod = s.pwmPeriod := rfl
@[simp] theorem State.setDutyA_script (v : Word) : (s.setDutyA v).script = s.script := rfl
@[simp] theorem State.setDutyA_draws (v : Word) : (s.setDutyA v).draws = s.draws := rfl

@[simp] theorem State.setDutyB_rxLatch (v : Word) : (s.setDutyB v).rxLatch = s.rxLatch := rfl
@[simp] theorem State.setDutyB_rxPending (v : Word) : (s.setDutyB v).rxPending = s.rxPending := rfl
@[simp] theorem State.setDutyB_phase (v : Word) : (s.setDutyB v).phase = s.phase := rfl
@[simp] theorem State.setDutyB_curByte (v : Word) : (s.setDutyB v).curByte = s.curByte := rfl
@[simp] theorem State.setDutyB_cool (v : Word) : (s.setDutyB v).cool = s.cool := rfl
@[simp] theorem State.setDutyB_warm (v : Word) : (s.setDutyB v).warm = s.warm := rfl
@[simp] theorem State.setDutyB_ind (v : Word) : (s.setDutyB v).ind = s.ind := rfl
@[simp] theorem State.setDutyB_period (v : Word) : (s.setDutyB v).period = s.period := rfl
@[simp] theorem State.setDutyB_dutyA (v : Word) : (s.setDutyB v).dutyA = s.dutyA := rfl
@[simp] theorem State.setDutyB_dutyB (v : Word) : (s.setDutyB v).dutyB = v := rfl
@[simp] theorem State.setDutyB_outEn (v : Word) : (s.setDutyB v).outEn = s.outEn := rfl
@[simp] theorem State.setDutyB_cnt (v : Word) : (s.setDutyB v).cnt = s.cnt := rfl
@[simp] theorem State.setDutyB_pol (v : Word) : (s.setDutyB v).pol = s.pol := rfl
@[simp] theorem State.setDutyB_idleLevel (v : Word) : (s.setDutyB v).idleLevel = s.idleLevel := rfl
@[simp] theorem State.setDutyB_pwmPeriod (v : Word) : (s.setDutyB v).pwmPeriod = s.pwmPeriod := rfl
@[simp] theorem State.setDutyB_script (v : Word) : (s.setDutyB v).script = s.script := rfl
@[simp] theorem State.setDutyB_draws (v : Word) : (s.setDutyB v).draws = s.draws := rfl

@[simp] theorem State.setCnt_rxLatch (v : Word) : (s.setCnt v).rxLatch = s.rxLatch := rfl
@[simp] theorem State.setCnt_rxPending (v : Word) : (s.setCnt v).rxPending = s.rxPending := rfl
@[simp] theorem State.setCnt_phase (v : Word) : (s.setCnt v).phase = s.phase := rfl
@[simp] theorem State.setCnt_curByte (v : Word) : (s.setCnt v).curByte = s.curByte := rfl
@[simp] theorem State.setCnt_cool (v : Word) : (s.setCnt v).cool = s.cool := rfl
@[simp] theorem State.setCnt_warm (v : Word) : (s.setCnt v).warm = s.warm := rfl
@[simp] theorem State.setCnt_ind (v : Word) : (s.setCnt v).ind = s.ind := rfl
@[simp] theorem State.setCnt_period (v : Word) : (s.setCnt v).period = s.period := rfl
@[simp] theorem State.setCnt_dutyA (v : Word) : (s.setCnt v).dutyA = s.dutyA := rfl
@[simp] theorem State.setCnt_dutyB (v : Word) : (s.setCnt v).dutyB = s.dutyB := rfl
@[simp] theorem State.setCnt_outEn (v : Word) : (s.setCnt v).outEn = s.outEn := rfl
@[simp] theorem State.setCnt_cnt (v : Word) : (s.setCnt v).cnt = v := rfl
@[simp] theorem State.setCnt_pol (v : Word) : (s.setCnt v).pol = s.pol := rfl
@[simp] theorem State.setCnt_idleLevel (v : Word) : (s.setCnt v).idleLevel = s.idleLevel := rfl
@[simp] theorem State.setCnt_pwmPeriod (v : Word) : (s.setCnt v).pwmPeriod = s.pwmPeriod := rfl
@[simp] theorem State.setCnt_script (v : Word) : (s.setCnt v).script = s.script := rfl
@[simp] theorem State.setCnt_draws (v : Word) : (s.setCnt v).draws = s.draws := rfl

@[simp] theorem State.setScript_rxLatch (es : List Event) : (s.setScript es).rxLatch = s.rxLatch := rfl
@[simp] theorem State.setScript_rxPending (es : List Event) : (s.setScript es).rxPending = s.rxPending := rfl
@[simp] theorem State.setScript_phase (es : List Event) : (s.setScript es).phase = s.phase := rfl
@[simp] theorem State.setScript_curByte (es : List Event) : (s.setScript es).curByte = s.curByte := rfl
@[simp] theorem State.setScript_cool (es : List Event) : (s.setScript es).cool = s.cool := rfl
@[simp] theorem State.setScript_warm (es : List Event) : (s.setScript es).warm = s.warm := rfl
@[simp] theorem State.setScript_ind (es : List Event) : (s.setScript es).ind = s.ind := rfl
@[simp] theorem State.setScript_period (es : List Event) : (s.setScript es).period = s.period := rfl
@[simp] theorem State.setScript_dutyA (es : List Event) : (s.setScript es).dutyA = s.dutyA := rfl
@[simp] theorem State.setScript_dutyB (es : List Event) : (s.setScript es).dutyB = s.dutyB := rfl
@[simp] theorem State.setScript_outEn (es : List Event) : (s.setScript es).outEn = s.outEn := rfl
@[simp] theorem State.setScript_cnt (es : List Event) : (s.setScript es).cnt = s.cnt := rfl
@[simp] theorem State.setScript_pol (es : List Event) : (s.setScript es).pol = s.pol := rfl
@[simp] theorem State.setScript_idleLevel (es : List Event) : (s.setScript es).idleLevel = s.idleLevel := rfl
@[simp] theorem State.setScript_pwmPeriod (es : List Event) : (s.setScript es).pwmPeriod = s.pwmPeriod := rfl
@[simp] theorem State.setScript_script (es : List Event) : (s.setScript es).script = es := rfl
@[simp] theorem State.setScript_draws (es : List Event) : (s.setScript es).draws = s.draws := rfl

@[simp] theorem State.setDraws_rxLatch (n : Nat) : (s.setDraws n).rxLatch = s.rxLatch := rfl
@[simp] theorem State.setDraws_rxPending (n : Nat) : (s.setDraws n).rxPending = s.rxPending := rfl
@[simp] theorem State.setDraws_phase (n : Nat) : (s.setDraws n).phase = s.phase := rfl
@[simp] theorem State.setDraws_curByte (n : Nat) : (s.setDraws n).curByte = s.curByte := rfl
@[simp] theorem State.setDraws_cool (n : Nat) : (s.setDraws n).cool = s.cool := rfl
@[simp] theorem State.setDraws_warm (n : Nat) : (s.setDraws n).warm = s.warm := rfl
@[simp] theorem State.setDraws_ind (n : Nat) : (s.setDraws n).ind = s.ind := rfl
@[simp] theorem State.setDraws_period (n : Nat) : (s.setDraws n).period = s.period := rfl
@[simp] theorem State.setDraws_dutyA (n : Nat) : (s.setDraws n).dutyA = s.dutyA := rfl
@[simp] theorem State.setDraws_dutyB (n : Nat) : (s.setDraws n).dutyB = s.dutyB := rfl
@[simp] theorem State.setDraws_outEn (n : Nat) : (s.setDraws n).outEn = s.outEn := rfl
@[simp] theorem State.setDraws_cnt (n : Nat) : (s.setDraws n).cnt = s.cnt := rfl
@[simp] theorem State.setDraws_pol (n : Nat) : (s.setDraws n).pol = s.pol := rfl
@[simp] theorem State.setDraws_idleLevel (n : Nat) : (s.setDraws n).idleLevel = s.idleLevel := rfl
@[simp] theorem State.setDraws_pwmPeriod (n : Nat) : (s.setDraws n).pwmPeriod = s.pwmPeriod := rfl
@[simp] theorem State.setDraws_script (n : Nat) : (s.setDraws n).script = s.script := rfl
@[simp] theorem State.setDraws_draws (n : Nat) : (s.setDraws n).draws = n := rfl

end Sys2Proof.Machine
end

