-- ==== Sys2Proof/Laws/Ops.lean ====
section
/-! SUPPORT. One lemma per shared operation, saying all it can do; the provers cite these instead of unfolding. -/

namespace Sys2Proof.Machine

/-- `advanceFrom` touches PHASE alone. -/
theorem State.advanceFrom_eq (s : State) (p : Phase) :
    s.advanceFrom p = s.setPhase (if s.phase = p then p.next else s.phase) := by
  unfold State.advanceFrom
  split <;> rfl

/-- `raiseRangeViolation` touches PHASE alone. -/
theorem raiseRangeViolation_eq (s : State) : raiseRangeViolation s = s.setPhase .halt := rfl

/-- The take's writes, then one of two phases. -/
theorem State.takeByte_eq (s : State) (byte : Byte) (d : DutyPair) :
    s.takeByte byte d = (s.beginUpdate byte d.cool d.warm).setPhase
      (if rangeViolation s.pwmPeriod d.cool d.warm then .halt else .aInd) := by
  unfold State.takeByte
  split <;> rfl

/-- The tick touches CNT alone. -/
theorem tick_eq (s : State) : tick s = s.setCnt (nextCount s.period s.cnt) := rfl

theorem State.takeEnabled_iff (s : State) : s.takeEnabled = true ↔ s.phase = .idle ∧ s.rxPending = true := by
  simp [State.takeEnabled]

theorem State.quiescent_iff (s : State) : s.quiescent = true ↔ s.phase = .idle ∧ s.rxPending = false := by
  simp [State.quiescent]

theorem State.halted_iff (s : State) : s.halted = true ↔ s.phase = .halt := by
  simp [State.halted]

/-- The fields are two ends of the byte. -/
theorem byteOf_fields (w : Byte) : byteOf (codeField w) (levelField w) = w := by
  revert w
  decide

/-- What the two fields of an assembled byte are. -/
theorem fields_byteOf (c b : Nibble) : codeField (byteOf c b) = c ∧ levelField (byteOf c b) = b := by
  revert c b
  decide

/-- A line event is a receive step of the byte the frame carries, or nothing. -/
theorem receiveLine_cases (f : LineFrame) (s : State) :
    (frameWf f = true ∧ receiveLine f s = .next (s.latchByte (f.extractLsb' 1 8))) ∨
    (frameWf f = false ∧ receiveLine f s = .next s) := by
  unfold receiveLine decodeFrame frameWf
  cases h0 : f.getLsbD 0 <;> cases h9 : f.getLsbD 9 <;> simp [exec, execRxframe]

/-- What a sequencer step can do: one line for each row of R17's table. -/
theorem sequencerStep_eq (s : State) :
    sequencerStep s =
      match s.phase with
      | .idle =>
        if s.rxPending then .next (s.takeByte s.rxLatch (byteDuties s.pwmPeriod s.rxLatch)) else .next s
      | .aInd => .next ((s.setInd (indicatorOn (levelField s.curByte))).setPhase .aStop)
      | .aStop => .next ((s.setOutEn false).setPhase .aPeriod)
      | .aPeriod => .next ((s.setPeriod s.pwmPeriod.ticks).setPhase .aDutyA)
      | .aDutyA => .next ((s.setDutyA s.cool).setPhase .aDutyB)
      | .aDutyB => .next ((s.setDutyB s.warm).setPhase .aStart)
      | .aStart => .next ((s.setOutEn true).setPhase .idle)
      | .halt => .fault .halted := by
  unfold sequencerStep sequencerInstr
  cases h : s.phase
  case idle =>
    cases hp : s.rxPending <;>
      simp [exec, execLight, decodeByte, State.takeEnabled, State.halted, byteDuties, byteOf_fields, h, hp]
  all_goals
    simp [exec, execIndSet, execOutDisable, execWrPeriod, execWrDutyA, execWrDutyB, execOutEnable,
      State.advanceFrom_eq, State.halted, State.indPayload, State.periodPayload, State.dutyAPayload,
      State.dutyBPayload, Phase.next, h]

/-- What an event can do (the inversion lemma of `perform`). -/
theorem perform_eq (e : Event) (s : State) :
    perform e s =
      match e with
      | .tick => .next (tick s)
      | .seq => sequencerStep s
      | .line f => if frameWf f then .next (s.latchByte (f.extractLsb' 1 8)) else .next s
      | .txReady => .next s
      | .reset => .next (resetStep s) := by
  cases e with
  | line f => rcases receiveLine_cases f s with ⟨h, h'⟩ | ⟨h, h'⟩ <;> simp [perform, h, h']
  | tick | seq | txReady | reset => rfl

/-- A list of events, one after another. -/
theorem performAll_cons_next {e : Event} {es : List Event} {s t : State} (h : perform e s = .next t) :
    performAll (e :: es) s = performAll es t := by
  simp [performAll, h]

/-- Performing two lists is performing the second where the first ends. -/
theorem performAll_append (es fs : List Event) {s t : State} (h : performAll es s = .next t) :
    performAll (es ++ fs) s = performAll fs t := by
  induction es generalizing s with
  | nil => simp_all [performAll]
  | cons e es ih =>
    cases hp : perform e s with
    | next u => simp only [List.cons_append, performAll, hp] at h ⊢; exact ih h
    | fault r => simp [performAll, hp] at h
    | refused r => simp [performAll, hp] at h

/-- Where the next event comes from: the script, or the free choice. -/
theorem nextEvent_cases (s : State) :
    (∃ e rest, s.script = e :: rest ∧ nextEvent s = (e, s.setScript rest)) ∨
    (s.script = [] ∧ nextEvent s = (Config.freeEvent s.draws, s.setDraws (s.draws + 1))) := by
  unfold nextEvent
  cases h : s.script with
  | nil => exact .inr ⟨rfl, rfl⟩
  | cons e rest => exact .inl ⟨e, rest, rfl, rfl⟩

end Sys2Proof.Machine
end

