-- ==== Sys2Proof/Laws/PerInstr.lean ====
section
/-! SUPPORT. Statements about the instructions as text, one lemma per constructor. -/

namespace Sys2Proof.Laws.Encodes

/-- The encoder yields a raw form that passes its own check: a frame with start bit 0 and stop bit 1, a payload that
fits its strobe (R44, R46). -/
def Statement (i : Sys2Proof.Instr) : Prop := (Sys2Proof.encode i).wf = true

theorem light (c b : Sys2Proof.Nibble) : Statement (.light c b) := rfl

theorem rxframe (d : Sys2Proof.Byte) : Statement (.rxframe d) := by
  revert d
  unfold Statement
  decide

theorem indSet (on : Bool) : Statement (.indSet on) := by
  cases on <;> rfl

theorem outDisable : Statement .outDisable := rfl

theorem wrPeriod (v : Sys2Proof.Word) : Statement (.wrPeriod v) :=
  decide_eq_true v.isLt

theorem wrDutyA (v : Sys2Proof.Word) : Statement (.wrDutyA v) :=
  decide_eq_true v.isLt

theorem wrDutyB (v : Sys2Proof.Word) : Statement (.wrDutyB v) :=
  decide_eq_true v.isLt

theorem outEnable : Statement .outEnable := rfl

end Sys2Proof.Laws.Encodes
end

