-- ==== Sys2Proof/Laws/Schedules.lean ====
section
/-! SUPPORT. What the terms of Safety.lean about schedules say: one more event, the events between two, a named step. -/

namespace Sys2Proof.Machine

/-- One event more at the end of a schedule's beginning. -/
theorem firstEvents_succ (sched : Nat → Event) (n : Nat) :
    firstEvents sched (n + 1) = firstEvents sched n ++ [sched n] := by
  simp [firstEvents, List.range_succ]

@[simp] theorem firstEvents_length (sched : Nat → Event) (n : Nat) : (firstEvents sched n).length = n := by
  simp [firstEvents]

/-- The state one event later. -/
theorem performAll_firstEvents_succ {sched : Nat → Event} {n : Nat} {s t u : State}
    (h : performAll (firstEvents sched n) s = .next t) (hu : perform (sched n) t = .next u) :
    performAll (firstEvents sched (n + 1)) s = .next u := by
  rw [firstEvents_succ, performAll_append _ _ h, performAll_cons_next hu]
  rfl

/-- The events before `j` are those up to `i` and those between. -/
theorem firstEvents_split (sched : Nat → Event) {i j : Nat} (h : i < j) :
    firstEvents sched j = firstEvents sched (i + 1) ++ eventsBetween sched i j := by
  have : firstEvents sched (i + 1) = (firstEvents sched j).take (i + 1) := by
    simp only [firstEvents, ← List.map_take, List.take_range, Nat.min_eq_left (Nat.succ_le_of_lt h)]
  rw [this, eventsBetween, List.take_append_drop]

/-- Nothing stands between an event and the next. -/
@[simp] theorem eventsBetween_self (sched : Nat → Event) (i : Nat) : eventsBetween sched i (i + 1) = [] :=
  List.drop_eq_nil_of_le (by simp)

/-- One event more before the later end. -/
theorem eventsBetween_succ (sched : Nat → Event) {i j : Nat} (h : i < j) :
    eventsBetween sched i (j + 1) = eventsBetween sched i j ++ [sched j] := by
  rw [eventsBetween, firstEvents_succ, List.drop_append_of_le_length (by simpa using h), eventsBetween]

/-- What `isStep` says. -/
theorem isStep_iff {sched : Nat → Event} {s : State} {p : Phase} {n : Nat} :
    isStep sched s p n = true ↔
      sched n = .seq ∧ ∃ t, performAll (firstEvents sched n) s = .next t ∧ t.phase = p := by
  unfold isStep
  cases performAll (firstEvents sched n) s <;> simp

/-- Lit ticks add up along two lists of events. -/
theorem litTicks_append (isLit : State → Bool) (es fs : List Event) {s t : State} (h : performAll es s = .next t) :
    litTicks isLit (es ++ fs) s = litTicks isLit es s + litTicks isLit fs t := by
  induction es generalizing s with
  | nil => cases h; simp [litTicks]
  | cons e es ih =>
    cases hp : perform e s with
    | next u =>
      rw [performAll_cons_next hp] at h
      simp only [List.cons_append, litTicks, hp, ih h]
      omega
    | fault r => simp [performAll, hp] at h
    | refused r => simp [performAll, hp] at h

end Sys2Proof.Machine
end

