-- ==== Sys2Proof/Tests/Slice0.lean ====
section
/-! SUPPORT. The model's own tests: words of the spec's encodings, vectors of 95_test_vectors.md, and, for each statement
with hypotheses, a witness that meets them. -/

namespace Sys2Proof.Tests

open Sys2Proof.Machine

/-! ## The checks of the raw forms refuse what is ill formed -/

/-- A frame with its start bit at 1 (R44). -/
theorem test_wf_start_bit : (Encoded.serialFrame 0b1011110001).wf = false := by decide

/-- A frame with its stop bit at 0 (R45). -/
theorem test_wf_stop_bit : (Encoded.serialFrame 0b0011110000).wf = false := by decide

/-- A payload wider than the strobe's (R46): ind_set has one bit, out_disable none. -/
theorem test_wf_payload : (Encoded.strobe .indSet 2).wf = false ∧ (Encoded.strobe .outDisable 1).wf = false := by
  decide

/-- PWM_PERIOD outside 1 .. 65534 is refused, its ends are not (R3, U10). -/
theorem test_wf_period : PwmPeriod.ofNat? 0 = none ∧ PwmPeriod.ofNat? 65535 = none ∧
    PwmPeriod.ofNat? 1 = some ⟨1, by decide⟩ ∧ PwmPeriod.ofNat? 65534 = some ⟨65534, by decide⟩ ∧
    PwmPeriod.ofNat? 3374 = some Config.pwmPeriod := by decide

/-! ## Decoding: words written out from the spec -/

/-- `ccccbbbb` (R40): 0111 1000 is LIGHT 7, 8; 0001 1110 is LIGHT 1, 14, not 14, 1 (vectors 3.1, 3.3). -/
theorem test_decode_light : decode (.controlByte 0b01111000) = .ok (.light 7 8) ∧
    decode (.controlByte 0b00011110) = .ok (.light 1 14) ∧ decode (.controlByte 0b10001111) = .ok (.light 8 15) := by
  decide

/-- `0 00011110 1` and `0 10000001 1` in time order (vectors 4.3), and `0 11110000 0`, whose stop bit is low. -/
theorem test_decode_rxframe :
    decodeLine [false, false, false, false, true, true, true, true, false, true] = .ok (.rxframe 0x78) ∧
    decodeLine [false, true, false, false, false, false, false, false, true, true] = .ok (.rxframe 0x81) ∧
    decodeLine [false, true, true, true, true, false, false, false, false, false] = .error .framingError ∧
    decodeLine [true, true, true, true, true, true, true, true, true, true] = .error .noStartBit ∧
    decodeLine [false, true] = .error .notTenBits := by decide

/-- The six strobes by name (R46). -/
theorem test_decode_strobes : decode (.strobe .indSet 1) = .ok (.indSet true) ∧
    decode (.strobe .outDisable 0) = .ok .outDisable ∧ decode (.strobe .wrPeriod 3374) = .ok (.wrPeriod 3374) ∧
    decode (.strobe .wrDutyA 840) = .ok (.wrDutyA 840) ∧ decode (.strobe .wrDutyB 960) = .ok (.wrDutyB 960) ∧
    decode (.strobe .outEnable 0) = .ok .outEnable ∧ decode (.strobe .indSet 2) = .error .payloadTooWide := by decide

/-- The table's numbering: LIGHT in 8 bits, RXFRAME in 10, or 16 in whole bytes, mask 0x201 match 0x200 (R47). -/
theorem test_decodeTableWord : decodeTableWord 8 0x78 = some (.light 7 8) ∧
    decodeTableWord 16 0x200 = some (.rxframe 0) ∧ decodeTableWord 10 0x2F0 = some (.rxframe 0x78) ∧
    decodeTableWord 16 0 = none ∧ decodeTableWord 0 0 = none := by decide

/-! ## The decoder's arithmetic (vectors 3.1 to 3.3) -/

/-- S1 to S5 of the source, as corrected. -/
theorem test_light_scenarios : byteDuties Config.pwmPeriod 0x00 = ⟨0, 0⟩ ∧
    byteDuties Config.pwmPeriod 0x0F = ⟨0, 3375⟩ ∧ byteDuties Config.pwmPeriod 0xF0 = ⟨0, 0⟩ ∧
    byteDuties Config.pwmPeriod 0xFF = ⟨3375, 0⟩ ∧ byteDuties Config.pwmPeriod 0x78 = ⟨840, 960⟩ := by decide

/-- Other periods: truncation before multiplying (P = 999, 3373), degenerate periods (14, 13) and the largest. -/
theorem test_light_periods : byteDuties ⟨999, by decide⟩ 0xFF = ⟨900, 90⟩ ∧
    byteDuties ⟨3373, by decide⟩ 0x78 = ⟨784, 1008⟩ ∧ byteDuties ⟨14, by decide⟩ 0xFF = ⟨0, 15⟩ ∧
    byteDuties ⟨13, by decide⟩ 0xFF = ⟨0, 0⟩ ∧ byteDuties ⟨65534, by decide⟩ 0xFF = ⟨65475, 60⟩ ∧
    byteDuties ⟨3388, by decide⟩ 0x01 = ⟨0, 225⟩ := by decide

/-- The range check on candidate pairs (vectors 4.4). -/
theorem test_rangeViolation : rangeViolation Config.pwmPeriod 3375 0 = false ∧
    rangeViolation Config.pwmPeriod 0 3375 = false ∧ rangeViolation Config.pwmPeriod 3376 0 = true ∧
    rangeViolation Config.pwmPeriod 0 65535 = true := by decide

/-! ## States: the middle of script 5.5 of the vectors, `0x1E` being applied over `0x78` -/

/-- After a completed update with 0x78 (vectors 5.1). -/
def shown78 : State := { State.reset with
  rxLatch := 0x78, curByte := 0x78, cool := 840, warm := 960, ind := true, dutyA := 840, dutyB := 960, outEn := true }

/-- The same with 0x1E received and pending. -/
def pending1E : State := { shown78 with rxLatch := 0x1E, rxPending := true }

/-- 0x1E taken: phase A_IND. -/
def inAInd : State := { shown78 with rxLatch := 0x1E, curByte := 0x1E, cool := 210, warm := 2940, phase := .aInd }

/-- Phase A_STOP. -/
def inAStop : State := { inAInd with phase := .aStop }

/-- Phase A_PERIOD: the outputs are disabled. -/
def inAPeriod : State := { inAStop with phase := .aPeriod, outEn := false }

/-- Phase A_DUTY_A. -/
def inADutyA : State := { inAPeriod with phase := .aDutyA }

/-- Phase A_DUTY_B: `(210, 960)` is a mixture, hidden. -/
def inADutyB : State := { inADutyA with phase := .aDutyB, dutyA := 210 }

/-- Phase A_START. -/
def inAStart : State := { inADutyB with phase := .aStart, dutyB := 2940 }

/-- A halted state, which no run reaches. -/
def halted : State := { shown78 with phase := .halt }

/-! ## One step of each agent -/

/-- LIGHT, the take of 0x78 after reset (vectors 4.4), and of the two full-scale bytes, which do not halt. -/
theorem test_take : exec (.light 7 8) { State.reset with rxLatch := 0x78, rxPending := true } =
    .next { State.reset with rxLatch := 0x78, curByte := 0x78, cool := 840, warm := 960, phase := .aInd } := rfl

theorem test_take_full_scale :
    (State.reset.takeByte 0xFF (byteDuties Config.pwmPeriod 0xFF)).phase = .aInd ∧
    (State.reset.takeByte 0x0F (byteDuties Config.pwmPeriod 0x0F)).phase = .aInd ∧
    (State.reset.takeByte 0xFF ⟨3376, 0⟩).phase = .halt := by decide

/-- RXFRAME: overwrite of a pending byte, and service in HALT (vectors 4.3). -/
theorem test_rx_overwrites : exec (.rxframe 0x11) pending1E = .next { pending1E with rxLatch := 0x11 } := rfl

theorem test_rx_in_halt : exec (.rxframe 0x11) halted = .next { halted with rxLatch := 0x11, rxPending := true } := rfl

/-- ind_set with the value for 0x10 and for 0x01 (vectors 4.5). -/
theorem test_ind_set : indicatorOn (levelField 0x10) = false ∧ indicatorOn (levelField 0x01) = true ∧
    indicatorOn (levelField 0xF0) = false := by decide

theorem test_ind_step : perform .seq inAInd = .next { inAInd with ind := true, phase := .aStop } := rfl

/-- The five timer strobes, step by step (vectors 5.5). -/
theorem test_out_disable : perform .seq inAStop = .next inAPeriod := rfl

theorem test_wr_period : perform .seq inAPeriod = .next inADutyA := rfl

theorem test_wr_duty_a : perform .seq inADutyA = .next inADutyB := rfl

theorem test_wr_duty_b : perform .seq inADutyB = .next inAStart := rfl

theorem test_out_enable : perform .seq inAStart = .next { inAStart with outEn := true, phase := .idle } := rfl

/-- The tick (vectors 4.1), the two unreachable rows too. -/
theorem test_tick : nextCount 3374 0 = 1 ∧ nextCount 3374 3372 = 3373 ∧ nextCount 3374 3373 = 0 ∧
    nextCount 1 0 = 0 ∧ nextCount 3374 5000 = 0 ∧ nextCount 0 7 = 0 := by decide

/-- Comparators and pins (vectors 4.2): strict comparison, idle level when disabled, duty P and P + 1. -/
theorem test_pins : { shown78 with cnt := 839 }.pins = (false, false, true) ∧
    { shown78 with cnt := 840 }.pins = (true, false, true) ∧ { shown78 with cnt := 960 }.pins = (true, true, true) ∧
    { shown78 with outEn := false }.pins = (true, true, true) ∧
    { shown78 with cnt := 3373, dutyA := 3374, dutyB := 3375 }.pins = (false, false, true) := by decide

/-- Reset in the middle of an update (vectors 4.6). -/
theorem test_reset : perform .reset inADutyB = .next State.reset := rfl

/-- `OFF` is the byte 0x00 (R48). -/
theorem test_off : encode offInstr = .controlByte 0 := by decide

/-- tx_ready and a malformed frame change nothing (R106, R45). -/
theorem test_no_effect : perform .txReady inADutyB = .next inADutyB ∧
    perform (.line 0b0111111110) inADutyB = .next inADutyB := ⟨rfl, rfl⟩

/-- A placed word runs as the first instruction after reset. -/
theorem test_withFetchWord_light : step (State.reset.withFetchWord 8 0x78) =
    .next { State.reset with rxLatch := 0x78, curByte := 0x78, cool := 840, warm := 960, phase := .aInd } := rfl

theorem test_withFetchWord_rxframe : step (State.reset.withFetchWord 16 0x2F0) =
    .next { State.reset with rxLatch := 0x78, rxPending := true } := rfl

/-! ## The invariant holds where it should -/

/-- 0x78 is shown. -/
theorem test_shows78 : Shows shown78 0x78 := ⟨by decide, by decide, by decide, by decide, by decide, by decide⟩

theorem test_inv_shown78 : Inv shown78 :=
  ⟨by decide, by decide, by decide, by decide, by decide, by decide, by decide, by decide, fun _ => ⟨0x78, by decide⟩,
    ⟨0x78, by decide⟩, fun _ _ => test_shows78⟩

theorem test_inv_pending1E : Inv pending1E :=
  ⟨by decide, by decide, by decide, by decide, by decide, by decide, by decide, by decide, fun _ => ⟨0x78, by decide⟩,
    ⟨0x78, by decide⟩, fun _ _ => ⟨by decide, by decide, by decide, by decide, by decide, by decide⟩⟩

theorem test_inv_inAPeriod : Inv inAPeriod :=
  ⟨by decide, by decide, by decide, by decide, by decide, by decide, by decide, by decide, fun _ => ⟨0x78, by decide⟩,
    ⟨0x78, by decide⟩, fun h => absurd h (by decide)⟩

theorem test_inv_inADutyA : Inv inADutyA :=
  ⟨by decide, by decide, by decide, by decide, by decide, by decide, by decide, by decide, fun _ => ⟨0x78, by decide⟩,
    ⟨0x78, by decide⟩, fun h => absurd h (by decide)⟩

theorem test_inv_inADutyB : Inv inADutyB :=
  ⟨by decide, by decide, by decide, by decide, by decide, by decide, by decide, by decide, fun h => absurd rfl h,
    ⟨0x78, by decide⟩, fun h => absurd h (by decide)⟩

/-- What the invariant rules out: a mixture of two bytes' duties shown with the outputs enabled. -/
theorem test_inv_refuses_a_glitch : ¬ Inv { inADutyB with outEn := true } :=
  fun h => absurd (h.gated (by decide)) (by decide)

/-! ## Witnesses: the hypotheses of each statement can be met -/

theorem test_witness_EncodeInvertsDecode : decode (.serialFrame 0b1011110000) = .ok (.rxframe 0x78) ∧
    decode (.strobe .outEnable 0) = .ok .outEnable := by decide

/-- IDLE with a byte pending: FetchedByteIsLightOfItsNibbles, TakeStepStoresTheDutyPair, UpdateTakesSevenSteps (with its
two lists, 6 steps and fewer), ReceiveStepInterleavings, first clause of LightWithAnyOperands. -/
theorem test_witness_pending : pending1E.phase = .idle ∧ pending1E.rxPending = true ∧
    (Event.reset ∉ [Event.seq, .tick, .seq, .rx 0x11, .seq, .seq, .seq, .seq] ∧
      seqCount [Event.seq, .tick, .seq, .rx 0x11, .seq, .seq, .seq, .seq] = 6) ∧
    (Event.reset ∉ [Event.tick] ∧ seqCount [Event.tick] < 6) ∧
    (Event.reset ∉ [Event.seq, .seq, .tick, .seq, .seq, .rx 0x11, .seq] ∧
      seqCount [Event.seq, .seq, .tick, .seq, .seq, .rx 0x11, .seq] = 5) := by decide

/-- Second clause of LightWithAnyOperands, at both ways of not being enabled. -/
theorem test_witness_not_enabled : ¬ (shown78.phase = .idle ∧ shown78.rxPending = true) ∧
    ¬ (inAInd.phase = .idle ∧ inAInd.rxPending = true) := by decide

theorem test_witness_StepPerformsOneEvent : ({ shown78 with script := [.tick] }).script = .tick :: [] ∧
    shown78.script = [] := by decide

theorem test_witness_StepRunsTheFetchedInstruction :
    ({ inAStop with script := [.seq] }).script = .seq :: [] ∧
    sequencerInstr { inAStop with script := [.seq] } = some .outDisable ∧
    ({ shown78 with script := [.line 0b1011110000] }).script = .line 0b1011110000 :: [] ∧
    decodeFrame 0b1011110000 = .ok (.rxframe 0x78) := by decide

theorem test_witness_RunOfAScriptIsItsEvents :
    ({ pending1E with script := [.seq, .tick, .reset] }).script = [.seq, .tick] ++ [.reset] := by decide

theorem test_witness_PlacedWordRunsNext : decodeTableWord 8 0xFF = some (.light 15 15) ∧
    decodeTableWord 16 0x3FE = some (.rxframe 0xFF) := by decide

/-- The phase hypotheses of the strobes' statements, with the invariant where they take it. -/
theorem test_witness_phases : inAInd.phase = .aInd ∧ inAStop.phase = .aStop ∧ inAPeriod.phase = .aPeriod ∧
    inADutyA.phase = .aDutyA ∧ inADutyB.phase = .aDutyB ∧ inAStart.phase = .aStart := by decide

theorem test_witness_phases_inv : Inv inAPeriod ∧ Inv inADutyA ∧ Inv inADutyB :=
  ⟨test_inv_inAPeriod, test_inv_inADutyA, test_inv_inADutyB⟩

/-- IndSetDrivesTheIndicator's three hypotheses. -/
theorem test_witness_IndSet : shown78.phase ≠ .aInd ∧ inAInd.phase = .aInd ∧ shown78.ind = true := by decide

theorem test_witness_StrobeOutsideItsPhase : shown78.phase ≠ .aStop ∧ shown78.phase ≠ .aPeriod ∧
    shown78.phase ≠ .aDutyA ∧ shown78.phase ≠ .aDutyB ∧ shown78.phase ≠ .aStart ∧ halted.phase ≠ .aStop := by decide

/-- InstructionFrames: an instruction that meets every clause's exclusions but its own. -/
theorem test_witness_InstructionFrames :
    exec .outDisable inAStop = .next inAPeriod ∧ (∀ d, Instr.outDisable ≠ .rxframe d) ∧
    (∀ c b, Instr.outDisable ≠ .light c b) ∧ (∀ on, Instr.outDisable ≠ .indSet on) ∧
    (∀ v, Instr.outDisable ≠ .wrPeriod v) ∧ (∀ v, Instr.outDisable ≠ .wrDutyA v) ∧
    (∀ v, Instr.outDisable ≠ .wrDutyB v) ∧ Instr.wrDutyA 0 ≠ .outDisable ∧ Instr.wrDutyA 0 ≠ .outEnable ∧
    exec (.wrDutyA 210) inADutyA = .next inADutyB :=
  ⟨rfl, nofun, nofun, nofun, nofun, nofun, nofun, nofun, nofun, rfl⟩

theorem test_witness_AgentFrames : perform .tick shown78 = .next { shown78 with cnt := 1 } ∧
    perform (.line (frameOf 0x1E)) shown78 = .next pending1E ∧ perform .seq inAStop = .next inAPeriod := ⟨rfl, rfl, rfl⟩

/-- The code and period hypotheses of the arithmetic statements, at the ends of their ranges. -/
theorem test_witness_periods :
    (15 : Nat) ≤ 15 ∧ (13 : Word).toNat + 1 < 15 ∧ (15 ≤ (14 : Word).toNat + 1 ∧ (14 : Word).toNat + 1 < 225) ∧
    (15 ≤ (223 : Word).toNat + 1 ∧ (223 : Word).toNat + 1 < 225) ∧ (0 : Nat) < ((224 : Word).toNat + 1) / 225 := by decide

theorem test_witness_DutiesAreMonotone : (14 : Nibble).toNat < (15 : Nibble).toNat ∧ 0 < (1 : Nibble).toNat ∧
    0 < (Config.pwmPeriod.ticks.toNat + 1) / 225 ∧ (0 : Nibble).toNat ≤ (0 : Nibble).toNat := by decide

theorem test_witness_BrightnessZeroIsOff : 15 ≤ (14 : Word).toNat + 1 ∧ (1 : Nibble) ≠ 0 := by decide

/-- SequencerFollowsItsTable: enabled at both ends of the table, and an agent that is neither SEQ nor reset. -/
theorem test_witness_SequencerFollowsItsTable : pending1E.seqEnabled = true ∧ inAStart.seqEnabled = true ∧
    Event.tick ≠ .seq ∧ Event.tick ≠ .reset ∧ perform .tick inAStart = .next { inAStart with cnt := 1 } :=
  ⟨by decide, by decide, by decide, by decide, rfl⟩

theorem test_witness_SequencerWithoutAStep : shown78.phase = .idle ∧ shown78.rxPending = false ∧ halted.phase = .halt := by
  decide

/-- Reachable states: reset is one (ReachableStateFacts, RangeViolationCannotOccur). -/
theorem test_witness_Reachable : Reachable { State.reset with rxLatch := 0x78, rxPending := true } :=
  ⟨Config.pwmPeriod, [.line (frameOf 0x78)], rfl⟩

theorem test_witness_HaltIsAbsorbing : halted.phase = .halt ∧ Event.reset ∉ [Event.tick, .rx 0x11] ∧
    Event.seq ∉ [Event.tick, .rx 0x11] ∧ Event.seq ∈ [Event.tick, .seq] ∧ Event.reset ∉ [Event.tick, .seq] ∧
    performAll [.tick] halted = .next { halted with cnt := 1 } :=
  ⟨by decide, by decide, by decide, by decide, by decide, rfl⟩

/-- NewestByteWins: the schedule that only steps the sequencer is quiet and fair. -/
theorem test_witness_NewestByteWins : Inv pending1E ∧ pending1E.rxPending = true ∧
    (∀ n : Nat, (Function.const Nat Event.seq n).quiet = true) ∧ WeakFair (Function.const Nat .seq) pending1E :=
  ⟨test_inv_pending1E, rfl, fun _ => rfl, fun n _ => ⟨n, Nat.le_refl n, rfl⟩⟩

/-- SendingAByteShowsItTwiceAlike: its hypothesis at both ends of the table of phases. -/
theorem test_witness_SendingAByte : shown78.phase ≠ .halt ∧ inAStart.phase ≠ .halt := by decide

theorem test_witness_QuiescentWithinThirteenSteps : inAInd.phase ≠ .halt ∧
    (∀ e ∈ List.replicate 13 Event.seq, e.quiet = true) ∧ 13 ≤ seqCount (List.replicate 13 Event.seq) := by decide

theorem test_witness_QuiescentStateOnlyCounts : shown78.quiescent = true ∧
    (∀ e ∈ [Event.tick, .seq, .txReady, .line 0b0111111110], e.quiet = true) := by decide

theorem test_witness_NoByteNoLight :
    receivedBytes [.tick, .seq, .reset, .txReady, .line 0b0111111110] = [] := by decide

theorem test_witness_LastByteReceived : Event.seq ∉ [Event.rx 0x8F, .tick, .rx 0xFF] ∧
    Event.reset ∉ [Event.rx 0x8F, .tick, .rx 0xFF] ∧ receivedBytes [.rx 0x8F, .tick, .rx 0xFF] = [0x8F, 0xFF] := by decide

theorem test_witness_NothingDelivered : (0b0111111110 : LineFrame).getLsbD 9 = false := by decide

theorem test_witness_ReceiveStepInterleavings : inADutyB.phase ≠ .idle ∧ halted.phase ≠ .idle := by decide

theorem test_witness_Tick : ({ shown78 with period := 0 }).period = 0 ∧
    ({ shown78 with cnt := 3374 }).period.toNat ≤ ({ shown78 with cnt := 3374 }).cnt.toNat := by decide

/-- CounterCountsTicksThroughUpdates, first clause: a run with a tick. -/
theorem test_witness_CounterCountsTicks : Inv inAPeriod ∧ Event.reset ∉ [Event.seq, .tick, .seq, .seq] ∧
    performAll [.seq, .tick, .seq, .seq] inAPeriod = .next { inAStart with cnt := 1 } :=
  ⟨test_inv_inAPeriod, by decide, rfl⟩

/-- A schedule that carries out the given events and then ticks for ever. -/
def thenTicks (es : List Event) (n : Nat) : Event := es.getD n .tick

/-- Phase A_STOP of the update with 0x1E, on a machine with PWM_PERIOD = 2, with a next byte pending. -/
def shortAStop : State :=
  { State.resetFor ⟨2, by decide⟩ with phase := .aStop, rxLatch := 0x78, rxPending := true, curByte := 0x1E, ind := true }

/-- The update's A_STOP and A_START steps with one tick between, two ticks, and the next update's A_STOP step. -/
def twoUpdates : List Event := [.seq, .seq, .tick, .seq, .seq, .seq, .tick, .seq, .seq, .tick, .seq]

/-- The places of the named steps in that schedule: A_STOP at 0 and 10, A_START at 5. -/
theorem test_isStep : (List.range 11).map (isStep (thenTicks twoUpdates) shortAStop .aStop) =
      [true, false, false, false, false, false, false, false, false, false, true] ∧
    (List.range 11).map (isStep (thenTicks twoUpdates) shortAStop .aStart) =
      [false, false, false, false, false, true, false, false, false, false, false] := by decide

theorem isStep_lt {es : List Event} {s : State} {p : Phase} {n : Nat} (h : isStep (thenTicks es) s p n = true) :
    n < es.length := by
  by_contra hn
  have : thenTicks es n = .tick := List.getD_eq_default _ _ (Nat.le_of_not_lt hn)
  simp [isStep, this] at h

theorem test_blankingInterval : BlankingInterval (thenTicks twoUpdates) shortAStop 0 5 :=
  ⟨by decide, ⟨by decide, by decide, fun k h1 h2 => by interval_cases k <;> decide⟩, by decide⟩

theorem test_showingInterval : ShowingInterval (thenTicks twoUpdates) shortAStop 5 10 ∧
    Event.reset ∉ eventsBetween (thenTicks twoUpdates) 5 10 :=
  ⟨⟨by decide, by decide, by decide, fun k h1 h2 => by interval_cases k <;> decide⟩, by decide⟩

/-- Both named premises on that schedule: one tick, fewer than PWM_PERIOD = 2, in the one blanking interval, and one whole
cycle of two ticks between the updates. -/
theorem test_blankingShort : BlankingShort (thenTicks twoUpdates) shortAStop := by
  rintro i j ⟨hi, ⟨hlt, hj, -⟩, -⟩
  have h := isStep_lt hj
  have : i < 11 ∧ j < 11 := by simp only [twoUpdates, List.length_cons, List.length_nil] at h; omega
  obtain ⟨hi', hj'⟩ := this
  revert hi hj hlt
  clear h
  interval_cases j <;> interval_cases i <;> decide

theorem test_updatesInfrequent : UpdatesInfrequent 1 (thenTicks twoUpdates) shortAStop := by
  rintro i j ⟨hi, hlt, hj, -⟩
  have h := isStep_lt hj
  have : i < 11 ∧ j < 11 := by simp only [twoUpdates, List.length_cons, List.length_nil] at h; omega
  obtain ⟨hi', hj'⟩ := this
  revert hi hj hlt
  clear h
  interval_cases j <;> interval_cases i <;> decide

/-- The premises can be violated by a legal schedule (R141): two ticks in the blanking interval, none between updates. -/
theorem test_premises_can_fail :
    ¬ BlankingShort (thenTicks [.seq, .seq, .tick, .tick, .seq, .seq, .seq]) shortAStop ∧
    ¬ UpdatesInfrequent 1 (thenTicks [.seq, .seq, .seq, .seq, .seq, .seq, .seq, .seq]) shortAStop :=
  ⟨fun h => absurd (h 0 6 ⟨by decide, ⟨by decide, by decide, fun k h1 h2 => by interval_cases k <;> decide⟩, by decide⟩)
    (by decide),
    fun h => absurd (h 4 7 ⟨by decide, by decide, by decide, fun k h1 h2 => by interval_cases k <;> decide⟩) (by decide)⟩

theorem test_inv_shortAStop : Inv shortAStop :=
  ⟨by decide, by decide, by decide, by decide, by decide, by decide, by decide, by decide, fun _ => ⟨0, by decide⟩,
    ⟨0, by decide⟩, fun h => absurd h (by decide)⟩

theorem test_witness_LitTicksPerCycle : shortAStop.cnt.toNat < shortAStop.period.toNat ∧
    ({ shortAStop with outEn := true, dutyB := 2 }).outEn = true ∧
    Event.seq ∉ [Event.tick, .rx 0x11, .tick] ∧ Event.reset ∉ [Event.tick, .rx 0x11, .tick] ∧
    tickCount [Event.tick, .rx 0x11, .tick] = shortAStop.period.toNat ∧ shortAStop.dutyA = 0 ∧
    ({ shortAStop with dutyB := 2 }).period.toNat ≤ ({ shortAStop with dutyB := 2 }).dutyB.toNat := by decide

/-- What it says there: a duty of 1 of 2 is lit at one tick of the two, wherever the cycle starts. -/
theorem test_litTicks :
    litTicks State.litA [.tick, .rx 0x11, .tick] { shortAStop with outEn := true, dutyA := 1 } = 1 ∧
    litTicks State.litA [.tick, .rx 0x11, .tick] { shortAStop with outEn := true, dutyA := 1, cnt := 1 } = 1 := by decide

/-- SteadyStateWaveform, both clauses: the schedule that only ticks is quiet and fair to the timer. -/
theorem test_witness_SteadyState : 0 < shown78.period.toNat ∧ shown78.outEn = true ∧ shown78.cnt = 0 ∧
    inADutyB.outEn = false ∧ shown78.quiescent = true ∧ shown78.cnt.toNat < shown78.period.toNat ∧
    (∀ n : Nat, (Function.const Nat Event.tick n).quiet = true) ∧ WeakFairTmr (Function.const Nat .tick) ∧
    (3373 : Word).toNat < shown78.period.toNat :=
  ⟨by decide, by decide, by decide, by decide, by decide, by decide, fun _ => rfl, fun n => ⟨n, Nat.le_refl n, rfl⟩,
    by decide⟩

/-- A schedule without ticks is not fair to the timer. -/
theorem test_not_WeakFairTmr : ¬ WeakFairTmr (Function.const Nat .seq) := fun h => by
  obtain ⟨_, _, h⟩ := h 0
  cases h

/-- PinsShowIdleOrOneSetting from 0x78 shown, at a tick, in A_STOP of the next update, and after it. -/
theorem test_witness_PinsShowIdleOrOneSetting : Inv pending1E ∧
    (DutyPair.mk pending1E.dutyA pending1E.dutyB = byteDuties pending1E.pwmPeriod 0x78 ∧ (0x78 : Byte) = pending1E.curByte) ∧
    performAll [.seq, .seq] pending1E = .next { inAStop with ind := true } ∧
    performAll (List.replicate 7 .seq) pending1E = .next { inAStart with outEn := true, phase := .idle, ind := true } :=
  ⟨test_inv_pending1E, by decide, rfl, rfl⟩

/-- The byte shown: the old one until the A_START step, the new one from then on; and the mixture (210, 960) of script
5.5 is no byte's setting. -/
theorem test_shownByte : shownByte [.seq, .seq] pending1E 0x78 = 0x78 ∧
    shownByte (List.replicate 6 .seq) pending1E 0x78 = 0x78 ∧ shownByte (List.replicate 7 .seq) pending1E 0x78 = 0x1E ∧
    ∀ d : Byte, DutyPair.mk 210 960 ≠ byteDuties Config.pwmPeriod d := by decide

theorem test_witness_TimerRewritten : Inv inADutyA ∧ Event.seq ≠ .reset ∧ perform .seq inADutyA = .next inADutyB ∧
    inADutyB.dutyA ≠ inADutyA.dutyA := ⟨test_inv_inADutyA, by decide, rfl, by decide⟩

/-- StepKeepsTheInvariant, GoodStatesNeverStop, TickCommutesWithTheSequencer. -/
theorem test_witness_StepKeepsTheInvariant : Inv { inADutyA with script := [.seq] } ∧
    step { inADutyA with script := [.seq] } = .next inADutyB :=
  ⟨⟨by decide, by decide, by decide, by decide, by decide, by decide, by decide, by decide, fun _ => ⟨0x78, by decide⟩,
    ⟨0x78, by decide⟩, fun h => absurd h (by decide)⟩, rfl⟩

/-- BoundAttainedAsWorded fails: P = 14, byte 0x1F (vectors 3.2, row 14). -/
theorem test_bound_attained_at_code_1 : byteDuties ⟨14, by decide⟩ 0x1F = ⟨0, 15⟩ := by decide

end Sys2Proof.Tests
end

/-! ## The script and the machine's steps (O6, O8)

The events still to come are bookkeeping of the model (log 1): no event reads or writes them. A run through a script is
therefore the script's events in order. -/

namespace Sys2Proof.Machine

/-- The outcome with its next state changed by `f`; a stop stays as it is. -/
def mapNext (f : State → State) : Host.Outcome State Fault Refusal → Host.Outcome State Fault Refusal
  | .next s => .next (f s)
  | .fault r => .fault r
  | .refused r => .refused r

@[simp] theorem mapNext_next (f : State → State) (s : State) : mapNext f (.next s) = .next (f s) := rfl
@[simp] theorem mapNext_fault (f : State → State) (r : Fault) : mapNext f (.fault r) = .fault r := rfl
@[simp] theorem mapNext_refused (f : State → State) (r : Refusal) : mapNext f (.refused r) = .refused r := rfl

@[simp] theorem State.setScript_setScript (s : State) (es fs : List Event) :
    (s.setScript es).setScript fs = s.setScript fs := rfl

theorem State.takeByte_setScript (s : State) (byte : Byte) (d : DutyPair) (es : List Event) :
    (s.setScript es).takeByte byte d = (s.takeByte byte d).setScript es := by
  rw [State.takeByte_eq, State.takeByte_eq]
  rfl

theorem sequencerStep_setScript (s : State) (es : List Event) :
    sequencerStep (s.setScript es) = mapNext (·.setScript es) (sequencerStep s) := by
  rw [sequencerStep_eq, sequencerStep_eq, State.setScript_phase]
  cases s.phase with
  | idle => cases hp : s.rxPending <;> simp [hp, State.takeByte_setScript]
  | aInd | aStop | aPeriod | aDutyA | aDutyB | aStart | halt => rfl

/-- No event reads or writes the script. -/
theorem perform_setScript (e : Event) (s : State) (es : List Event) :
    perform e (s.setScript es) = mapNext (·.setScript es) (perform e s) := by
  cases e with
  | seq => exact sequencerStep_setScript s es
  | line f =>
    simp only [perform_eq]
    split <;> rfl
  | tick | txReady | reset => rfl

/-- The step with an event at the script's head. -/
theorem step_of_script_cons {s : State} {e : Event} {rest : List Event} (h : s.script = e :: rest) :
    step s = perform e (s.setScript rest) := by
  simp only [step, nextEvent, h]

/-- The step with nothing in the script. -/
theorem step_of_script_nil {s : State} (h : s.script = []) :
    step s = perform (Config.freeEvent s.draws) (s.setDraws (s.draws + 1)) := by
  simp only [step, nextEvent, h]

/-- Settles O6: the two equations of a step. -/
theorem stepPerformsOneEvent : Obligations.StepPerformsOneEvent :=
  ⟨fun _ _ _ => step_of_script_cons, fun _ => step_of_script_nil⟩

/-- Settles O8, by induction on the events: a step answers what performing the head answers, but for the script, and the
script left is the tail's. -/
theorem runOfAScriptIsItsEvents : Obligations.RunOfAScriptIsItsEvents := by
  intro es rest
  induction es with
  | nil => rintro s rfl; rfl
  | cons e es ih =>
    intro s h
    have hstep : Sys2Proof.core.step s = mapNext (·.setScript (es ++ rest)) (perform e s) :=
      (step_of_script_cons h).trans (perform_setScript e s _)
    have hhead : perform e { s with script := rest } = mapNext (·.setScript rest) (perform e s) :=
      perform_setScript e s rest
    simp only [List.length_cons, Host.Core.run, hstep, performAll, hhead]
    cases perform e s with
    | next t => exact ih (t.setScript (es ++ rest)) rfl
    | fault r => rfl
    | refused r => rfl

end Sys2Proof.Machine

/-! ## The invariant (O57, O58, O59, O60)

One lemma carries the part: from a state of the invariant every event answers a next state, and that state meets the
invariant (`Inv.perform`). Its only case with content is the sequencer's step, one lemma for each row of R17's table.
-/

namespace Sys2Proof.Machine

/-! ### The duties of one byte -/

/-- The duties of a byte sum to at most `PWM_PERIOD + 1` (R57, R58). -/
theorem byteDuties_sum_le (p : PwmPeriod) (d : Byte) :
    (byteDuties p d).cool.toNat + (byteDuties p d).warm.toNat ≤ p.ticks.toNat + 1 := by
  simp only [byteDuties, lightDuties, BitVec.toNat_ofNat]
  generalize p.ticks.toNat = P, (codeField d).toNat = c, hb : (levelField d).toNat = b
  have hlevel : unitDuty P * b ≤ unitDuty P * 15 := Nat.mul_le_mul_left _ (by omega)
  have hunit : unitDuty P * 15 ≤ P + 1 := Nat.div_mul_le_self (P + 1) 15
  have hsum : coolDuty P c b + warmDuty P c b = unitDuty P * b := Nat.sub_add_cancel (Nat.sub_le _ _)
  calc coolDuty P c b % 2 ^ 16 + warmDuty P c b % 2 ^ 16
      ≤ coolDuty P c b + warmDuty P c b := Nat.add_le_add (Nat.mod_le _ _) (Nat.mod_le _ _)
    _ ≤ P + 1 := by omega

/-- The range check never fires on a byte's duties (R117). -/
theorem rangeViolation_byteDuties (p : PwmPeriod) (d : Byte) :
    rangeViolation p (byteDuties p d).cool (byteDuties p d).warm = false := by
  have hsum := byteDuties_sum_le p d
  simp only [rangeViolation, Bool.or_eq_false_iff, decide_eq_false_iff_not]
  omega

/-- Byte 0 is off, whatever the period (R59). -/
theorem byteDuties_zero (p : PwmPeriod) : byteDuties p 0 = ⟨0, 0⟩ := by
  simp [byteDuties, lightDuties, coolDuty, warmDuty, levelField]

/-- The counter stays below a period that is not 0 (R72). -/
theorem nextCount_lt {period cnt : Word} (h : 0 < period.toNat) : (nextCount period cnt).toNat < period.toNat := by
  unfold nextCount
  split
  case isTrue => exact h
  case isFalse hlt =>
    rw [BitVec.toNat_add]
    exact Nat.lt_of_le_of_lt (Nat.mod_le _ _) (Nat.lt_of_not_le hlt)

/-! ### Reset -/

/-- Settles O57: the duties are those of byte 0, the outputs are disabled, and a legal period is above 0. -/
theorem resetMeetsTheInvariant : Obligations.ResetMeetsTheInvariant := fun p =>
  { period := rfl
    count := p.legal.1
    running := nofun
    gated := nofun
    working := nofun
    newInd := nofun
    newA := nofun
    newB := nofun
    oneByte := fun _ => ⟨0, (byteDuties_zero p).symm⟩
    someB := ⟨0, congrArg DutyPair.warm (byteDuties_zero p).symm⟩
    shown := nofun }

/-! ### What the invariant does not read -/

section

variable {s : State}

theorem Shows.of_mailbox_cnt_schedule {d : Byte} (h : Shows s d) (latch : Byte) (pending : Bool) (cnt : Word)
    (es : List Event) (n : Nat) :
    Shows { s with rxLatch := latch, rxPending := pending, cnt := cnt, script := es, draws := n } d :=
  ⟨h.ind, h.dutyA, h.dutyB, h.period, h.outEn, h.curByte⟩

/-- The invariant does not read the mailbox and the schedule, and of CNT it asks only that it is below PERIOD. -/
theorem Inv.of_mailbox_cnt_schedule (h : Inv s) (latch : Byte) (pending : Bool) {cnt : Word}
    (hc : cnt.toNat < s.period.toNat) (es : List Event) (n : Nat) :
    Inv { s with rxLatch := latch, rxPending := pending, cnt := cnt, script := es, draws := n } :=
  { h with
    count := hc
    shown := fun hp ho => (h.shown hp ho).of_mailbox_cnt_schedule latch pending cnt es n }

theorem Inv.latchByte (h : Inv s) (d : Byte) : Inv (s.latchByte d) :=
  h.of_mailbox_cnt_schedule d true h.count s.script s.draws

theorem Inv.setScript (h : Inv s) (es : List Event) : Inv (s.setScript es) :=
  h.of_mailbox_cnt_schedule s.rxLatch s.rxPending h.count es s.draws

theorem Inv.setDraws (h : Inv s) (n : Nat) : Inv (s.setDraws n) :=
  h.of_mailbox_cnt_schedule s.rxLatch s.rxPending h.count s.script n

theorem Inv.tick (h : Inv s) : Inv (tick s) :=
  h.of_mailbox_cnt_schedule s.rxLatch s.rxPending (nextCount_lt (Nat.zero_lt_of_lt h.count)) s.script s.draws

theorem inv_resetStep (s : State) : Inv (resetStep s) :=
  have h := resetMeetsTheInvariant s.pwmPeriod
  h.of_mailbox_cnt_schedule 0 false h.count s.script s.draws

/-! ### The rows of the sequencer's table (R17) -/

/-- The take: the working registers become LIGHT of the new CUR_BYTE, and the range check passes (R88, R91). -/
theorem Inv.takeByte (h : Inv s) (hp : s.phase = .idle) (w : Byte) :
    Inv (s.takeByte w (byteDuties s.pwmPeriod w)) := by
  rw [State.takeByte_eq, rangeViolation_byteDuties]
  exact { h with
    running := nofun
    gated := nofun
    working := fun _ => rfl
    newInd := fun _ hne => absurd rfl hne
    newA := nofun
    newB := nofun
    oneByte := fun _ => h.oneByte (by simp [hp])
    shown := nofun }

/-- A_IND: the indicator becomes CUR_BYTE's (R89). -/
theorem Inv.indSetRow (h : Inv s) (hp : s.phase = .aInd) :
    Inv ((s.setInd (indicatorOn (levelField s.curByte))).setPhase .aStop) :=
  { h with
    running := nofun
    gated := nofun
    working := fun _ => h.working (by rw [hp]; rfl)
    newInd := fun _ _ => rfl
    newA := nofun
    newB := nofun
    oneByte := fun _ => h.oneByte (by simp [hp])
    shown := nofun }

/-- A_STOP: the gate closes before the rewriting begins (R66). -/
theorem Inv.outDisableRow (h : Inv s) (hp : s.phase = .aStop) : Inv ((s.setOutEn false).setPhase .aPeriod) :=
  { h with
    running := nofun
    gated := fun _ => rfl
    working := fun _ => h.working (by rw [hp]; rfl)
    newInd := fun _ _ => h.newInd (by rw [hp]; rfl) (by simp [hp])
    newA := nofun
    newB := nofun
    oneByte := fun _ => h.oneByte (by simp [hp])
    shown := nofun }

/-- A_PERIOD: PERIOD is written with the value it has (R67). -/
theorem Inv.wrPeriodRow (h : Inv s) (hp : s.phase = .aPeriod) :
    Inv ((s.setPeriod s.pwmPeriod.ticks).setPhase .aDutyA) :=
  { h with
    period := rfl
    count := by simpa [← h.period] using h.count
    running := nofun
    gated := fun _ => h.gated (by rw [hp]; rfl)
    working := fun _ => h.working (by rw [hp]; rfl)
    newInd := fun _ _ => h.newInd (by rw [hp]; rfl) (by simp [hp])
    newA := nofun
    newB := nofun
    oneByte := fun _ => h.oneByte (by simp [hp])
    shown := nofun }

/-- A_DUTY_A: DUTY_A becomes COOL; the pair may now be a mixture, which A_DUTY_B is exempt for (R68). -/
theorem Inv.wrDutyARow (h : Inv s) (hp : s.phase = .aDutyA) : Inv ((s.setDutyA s.cool).setPhase .aDutyB) :=
  { h with
    running := nofun
    gated := fun _ => h.gated (by rw [hp]; rfl)
    working := fun _ => h.working (by rw [hp]; rfl)
    newInd := fun _ _ => h.newInd (by rw [hp]; rfl) (by simp [hp])
    newA := fun _ => rfl
    newB := nofun
    oneByte := fun hne => absurd rfl hne
    shown := nofun }

/-- A_DUTY_B: DUTY_B becomes WARM, and the pair is that of CUR_BYTE (R69). -/
theorem Inv.wrDutyBRow (h : Inv s) (hp : s.phase = .aDutyB) : Inv ((s.setDutyB s.warm).setPhase .aStart) :=
  have hA : s.dutyA = s.cool := h.newA (.inl hp)
  have hwork : DutyPair.mk s.cool s.warm = byteDuties s.pwmPeriod s.curByte := h.working (by rw [hp]; rfl)
  { h with
    running := nofun
    gated := fun _ => h.gated (by rw [hp]; rfl)
    working := fun _ => hwork
    newInd := fun _ _ => h.newInd (by rw [hp]; rfl) (by simp [hp])
    newA := fun _ => hA
    newB := fun _ => rfl
    oneByte := fun _ => ⟨s.curByte, by simpa [hA] using hwork⟩
    someB := ⟨s.curByte, congrArg DutyPair.warm hwork⟩
    shown := nofun }

/-- A_START: the gate opens on CUR_BYTE's complete setting (R70, R94). -/
theorem Inv.outEnableRow (h : Inv s) (hp : s.phase = .aStart) : Inv ((s.setOutEn true).setPhase .idle) :=
  have hup : s.phase.updating = true := by rw [hp]; rfl
  have hwork := h.working hup
  { h with
    running := nofun
    gated := nofun
    working := nofun
    newInd := nofun
    newA := nofun
    newB := nofun
    oneByte := fun _ => h.oneByte (by simp [hp])
    shown := fun _ _ =>
      { ind := h.newInd hup (by simp [hp])
        dutyA := (h.newA (.inr hp)).trans (congrArg DutyPair.cool hwork)
        dutyB := (h.newB hp).trans (congrArg DutyPair.warm hwork)
        period := h.period
        outEn := rfl
        curByte := rfl } }

/-! ### Every step -/

/-- From a state of the invariant the sequencer's step answers a next state, which meets the invariant. -/
theorem Inv.sequencerStep (h : Inv s) : ∃ t, sequencerStep s = .next t ∧ Inv t := by
  rw [sequencerStep_eq]
  cases hp : s.phase with
  | idle =>
    cases s.rxPending with
    | false => exact ⟨s, rfl, h⟩
    | true => exact ⟨_, rfl, h.takeByte hp s.rxLatch⟩
  | aInd => exact ⟨_, rfl, h.indSetRow hp⟩
  | aStop => exact ⟨_, rfl, h.outDisableRow hp⟩
  | aPeriod => exact ⟨_, rfl, h.wrPeriodRow hp⟩
  | aDutyA => exact ⟨_, rfl, h.wrDutyARow hp⟩
  | aDutyB => exact ⟨_, rfl, h.wrDutyBRow hp⟩
  | aStart => exact ⟨_, rfl, h.outEnableRow hp⟩
  | halt => exact absurd hp h.running

/-- From a state of the invariant every event answers a next state, which meets the invariant. -/
theorem Inv.perform (h : Inv s) (e : Event) : ∃ t, perform e s = .next t ∧ Inv t := by
  cases e with
  | tick => exact ⟨_, rfl, h.tick⟩
  | seq => exact h.sequencerStep
  | line f =>
    obtain ⟨-, hf⟩ | ⟨-, hf⟩ := receiveLine_cases f s
    · exact ⟨_, hf, h.latchByte _⟩
    · exact ⟨s, hf, h⟩
  | txReady => exact ⟨s, rfl, h⟩
  | reset => exact ⟨_, rfl, inv_resetStep s⟩

/-- From a state of the invariant the machine's step answers a next state, which meets the invariant. -/
theorem Inv.step (h : Inv s) : ∃ t, step s = .next t ∧ Inv t := by
  cases hs : s.script with
  | nil => rw [step_of_script_nil hs]; exact (h.setDraws _).perform _
  | cons e rest => rw [step_of_script_cons hs]; exact (h.setScript rest).perform e

end

/-- Settles O58: the next state of `Inv.step` is the step's. -/
theorem stepKeepsTheInvariant : Obligations.StepKeepsTheInvariant := by
  intro s t h hst
  obtain ⟨u, hu, hInv⟩ := h.step
  cases hst.symm.trans hu
  exact hInv

/-- Settles O59: `Inv.step` names the next state. -/
theorem goodStatesNeverStop : Obligations.GoodStatesNeverStop := by
  intro s h
  obtain ⟨t, ht, -⟩ := h.step
  exact ⟨t, ht⟩

/-! ### Reachable states -/

/-- What every event keeps holds after every list of events. -/
theorem performAll_preserves {I : State → Prop} (hI : ∀ e s t, I s → perform e s = .next t → I t)
    {es : List Event} {s t : State} (h : I s) (hes : performAll es s = .next t) : I t := by
  induction es generalizing s with
  | nil => cases hes; exact h
  | cons e es ih =>
    cases he : perform e s with
    | next u => rw [performAll_cons_next he] at hes; exact ih (hI e s u h he) hes
    | fault r => simp [performAll, he] at hes
    | refused r => simp [performAll, he] at hes

theorem Inv.of_perform {e : Event} {s t : State} (h : Inv s) (he : Machine.perform e s = .next t) : Inv t := by
  obtain ⟨u, hu, hInv⟩ := h.perform e
  cases he.symm.trans hu
  exact hInv

theorem Inv.of_reachable {s : State} (h : Reachable s) : Inv s := by
  obtain ⟨p, es, hes⟩ := h
  exact performAll_preserves (fun _ _ _ => Inv.of_perform) (resetMeetsTheInvariant p) hes

/-- Outside A_DUTY_B the two duty registers hold one byte's pair, so its bound is theirs (R28). -/
theorem Inv.duties_sum_le {s : State} (h : Inv s) (hp : s.phase ≠ .aDutyB) :
    s.dutyA.toNat + s.dutyB.toNat ≤ s.pwmPeriod.ticks.toNat + 1 := by
  obtain ⟨d, hd⟩ := h.oneByte hp
  have hsum := byteDuties_sum_le s.pwmPeriod d
  rwa [← hd] at hsum

/-- In A_DUTY_B the bound on DUTY_A is that of COOL, elsewhere that of the pair. -/
theorem Inv.dutyA_le {s : State} (h : Inv s) : s.dutyA.toNat ≤ s.pwmPeriod.ticks.toNat + 1 := by
  by_cases hp : s.phase = .aDutyB
  · have hwork : DutyPair.mk s.cool s.warm = _ := h.working (by rw [hp]; rfl)
    have hsum := byteDuties_sum_le s.pwmPeriod s.curByte
    rw [← hwork, ← h.newA (.inl hp)] at hsum
    exact Nat.le_of_add_right_le hsum
  · exact Nat.le_of_add_right_le (h.duties_sum_le hp)

theorem Inv.dutyB_le {s : State} (h : Inv s) : s.dutyB.toNat ≤ s.pwmPeriod.ticks.toNat + 1 := by
  obtain ⟨d, hd⟩ := h.someB
  rw [hd]
  exact Nat.le_of_add_left_le (byteDuties_sum_le s.pwmPeriod d)

/-- Settles O60: a reachable state meets the invariant, which bounds the duties by those of one byte. -/
theorem reachableStateFacts : Obligations.ReachableStateFacts := by
  intro s hs
  have h := Inv.of_reachable hs
  refine ⟨h.period, h.count, h.dutyA_le, h.dutyB_le, h.duties_sum_le, fun hp => h.gated (by rw [hp]; rfl),
    h.running, ?_⟩
  rintro (hp | hp | hp | hp) <;> exact h.gated (by rw [hp]; rfl)

end Sys2Proof.Machine

/-! ## What an instruction and an agent leave alone (O7, O21, O22) -/

namespace Sys2Proof.Machine

/-- What an instruction can do: one line for each, as named writes. -/
theorem exec_eq (i : Instr) (s : State) :
    exec i s =
      match i with
      | .light c b =>
        if s.takeEnabled then .next (s.takeByte (byteOf c b) (lightDuties s.pwmPeriod c b)) else .next s
      | .rxframe d => .next (s.latchByte d)
      | .indSet on => .next ((s.setInd on).advanceFrom .aInd)
      | .outDisable => .next ((s.setOutEn false).advanceFrom .aStop)
      | .wrPeriod v => .next ((s.setPeriod v).advanceFrom .aPeriod)
      | .wrDutyA v => .next ((s.setDutyA v).advanceFrom .aDutyA)
      | .wrDutyB v => .next ((s.setDutyB v).advanceFrom .aDutyB)
      | .outEnable => .next ((s.setOutEn true).advanceFrom .aStart) := by
  cases i <;> rfl

/-- Settles O21, instruction by instruction: each writes the registers it owns and, `takeByte` and `advanceFrom` among
it, PHASE. -/
theorem instructionFrames : Obligations.InstructionFrames := by
  intro i s t h
  rw [exec_eq] at h
  cases i with
  | light c b =>
    cases he : s.takeEnabled with
    | false => rw [he] at h; cases h; simp
    | true => rw [he] at h; cases h; simp [State.takeByte_eq]
  | rxframe d => cases h; simp
  | indSet on | outDisable | wrPeriod v | wrDutyA v | wrDutyB v | outEnable =>
    cases h; simp [State.advanceFrom_eq]

/-- The registers no row of the sequencer's table writes (R97), and the flag it never raises. -/
theorem sequencerStep_frame {s t : State} (h : sequencerStep s = .next t) :
    t.pwmPeriod = s.pwmPeriod ∧ t.script = s.script ∧ t.draws = s.draws ∧ t.cnt = s.cnt ∧ t.rxLatch = s.rxLatch ∧
    t.pol = s.pol ∧ t.idleLevel = s.idleLevel ∧ (t.rxPending = true → s.rxPending = true) := by
  rw [sequencerStep_eq] at h
  cases hp : s.phase with
  | idle =>
    cases hr : s.rxPending with
    | false => simp only [hp, hr] at h; cases h; simp [hr]
    | true => simp only [hp, hr] at h; cases h; simp [State.takeByte_eq]
  | aInd | aStop | aPeriod | aDutyA | aDutyB | aStart => simp only [hp] at h; cases h; simp
  | halt => simp [hp] at h

/-- Settles O22, event by event. -/
theorem agentFrames : Obligations.AgentFrames := by
  intro e s t h
  cases e with
  | tick => cases h; exact ⟨rfl, rfl, rfl, fun _ => rfl, nofun, nofun⟩
  | seq =>
    obtain ⟨hperiod, hscript, hdraws, hrest⟩ := sequencerStep_frame h
    exact ⟨hperiod, hscript, hdraws, nofun, nofun, fun _ => hrest⟩
  | line f =>
    obtain ⟨-, hf⟩ | ⟨-, hf⟩ := receiveLine_cases f s <;>
    · cases hf.symm.trans h
      exact ⟨rfl, rfl, rfl, nofun, fun _ _ => rfl, nofun⟩
  | txReady | reset => cases h; exact ⟨rfl, rfl, rfl, nofun, nofun, nofun⟩

/-- Settles O7: the agent that steps hands its instruction to `exec`, and neither the sequencer nor the line reads the
script. -/
theorem stepRunsTheFetchedInstruction : Obligations.StepRunsTheFetchedInstruction := by
  refine ⟨fun s i rest hs hi => ?_, fun s f i rest hs hi => ?_⟩
  · have hfetch : sequencerInstr (s.setScript rest) = some i := hi
    rw [step_of_script_cons hs]
    simp only [perform, sequencerStep, hfetch]
    rfl
  · rw [step_of_script_cons hs]
    simp only [perform, receiveLine, hi]
    rfl

end Sys2Proof.Machine

/-! ## Encodings (O1 to O5)

A raw form and its instruction determine each other: the two fields are the two ends of the byte, the byte is the middle
of a frame with the right ends, and a payload that fits its strobe is the strobe's operand. -/

namespace Sys2Proof

/-! ### The fields of the control byte (R41) -/

theorem toNat_codeField (w : Byte) : (codeField w).toNat = w.toNat / 16 := by
  have := w.isLt
  simp only [codeField, BitVec.extractLsb'_toNat, Nat.shiftRight_eq_div_pow]
  omega

theorem toNat_levelField (w : Byte) : (levelField w).toNat = w.toNat % 16 := by
  simp [levelField]

theorem toNat_byteOf (c b : Nibble) : (byteOf c b).toNat = 16 * c.toNat + b.toNat := by
  have := b.isLt
  rw [byteOf, BitVec.toNat_append, Nat.shiftLeft_eq, Nat.mul_comm, ← Nat.two_pow_add_eq_or_of_lt this]

theorem decodeByte_byteOf (c b : Nibble) : decodeByte (byteOf c b) = .light c b := by
  obtain ⟨hc, hb⟩ := Machine.fields_byteOf c b
  rw [decodeByte, hc, hb]

/-! ### Frames (R44, R45, R47) -/

/-- Ten bit-times in the numbering of R47: a start bit 0, the byte `d`, a stop bit. -/
def framed (stop : Bool) (d : Byte) : LineFrame := BitVec.ofBool stop ++ d ++ 0#1

theorem framed_true (d : Byte) : framed true d = frameOf d := rfl

theorem getLsbD_framed (stop : Bool) (d : Byte) (i : Nat) :
    (framed stop d).getLsbD i =
      if i < 1 then (0#1).getLsbD i else if i - 1 < 8 then d.getLsbD (i - 1)
      else (BitVec.ofBool stop).getLsbD (i - 1 - 8) := by
  rw [framed, BitVec.getLsbD_append, BitVec.getLsbD_append]

/-- Of ten bit-times that start with a 0 and carry `d`, the stop bit decides. -/
theorem decodeFrame_framed (stop : Bool) (d : Byte) :
    decodeFrame (framed stop d) = if stop then .ok (.rxframe d) else .error .framingError := by
  have hstart : (framed stop d).getLsbD 0 = false := by rw [getLsbD_framed]; rfl
  have hstop : (framed stop d).getLsbD 9 = stop := by rw [getLsbD_framed]; cases stop <;> rfl
  have hdata : (framed stop d).extractLsb' 1 8 = d := by
    ext i hi
    rw [BitVec.getElem_extractLsb', getLsbD_framed]
    simp [hi]
  simp only [decodeFrame, hstart, hstop, hdata, Bool.false_eq_true, if_false]

theorem decodeFrame_frameOf (d : Byte) : decodeFrame (frameOf d) = .ok (.rxframe d) :=
  decodeFrame_framed true d

/-- Only a well-formed frame decodes, and it decodes to the byte between its ends. -/
theorem decodeFrame_eq_ok_iff {f : LineFrame} {i : Instr} :
    decodeFrame f = .ok i ↔ frameWf f = true ∧ i = .rxframe (f.extractLsb' 1 8) := by
  unfold decodeFrame frameWf
  cases f.getLsbD 0 <;> cases f.getLsbD 9 <;> simp [eq_comm]

theorem decodeFrame_of_toOption {f : LineFrame} {i : Instr} (h : (decodeFrame f).toOption = some i) :
    decodeFrame f = .ok i := by
  cases hf : decodeFrame f with
  | ok j => rw [hf] at h; cases h; rfl
  | error e => rw [hf] at h; cases h

/-- A well-formed frame is the frame of the byte between its ends. -/
theorem frameOf_extract {f : LineFrame} (h : frameWf f = true) : frameOf (f.extractLsb' 1 8) = f := by
  have hends : f.getLsbD 0 = false ∧ f.getLsbD 9 = true := by
    simpa only [frameWf, Bool.and_eq_true, Bool.not_eq_true'] using h
  obtain ⟨hstart, hstop⟩ := hends
  rw [← framed_true]
  apply BitVec.eq_of_getLsbD_eq
  intro i hi
  rw [getLsbD_framed]
  by_cases h0 : i = 0
  · rw [h0, hstart]; rfl
  by_cases h9 : i = 9
  · rw [h9, hstop]; rfl
  have hdata : i - 1 < 8 := by omega
  rw [if_neg (by omega), if_pos hdata, BitVec.getLsbD_extractLsb', decide_eq_true hdata, Bool.true_and,
    Nat.add_sub_cancel' (Nat.one_le_iff_ne_zero.mpr h0)]

/-- The bits in time order are the frame's bits from bit 0 up (R47). -/
theorem ofBoolListLE_bits (d : Byte) (stop : Bool) :
    (BitVec.ofBoolListLE [false, d.getLsbD 0, d.getLsbD 1, d.getLsbD 2, d.getLsbD 3, d.getLsbD 4, d.getLsbD 5,
      d.getLsbD 6, d.getLsbD 7, stop]).setWidth 10 = framed stop d := by
  apply BitVec.eq_of_getLsbD_eq
  intro i hi
  rw [BitVec.getLsbD_setWidth, BitVec.getLsbD_ofBoolListLE, getLsbD_framed]
  interval_cases i <;> simp

/-! ### Strobes (R46) -/

/-- A payload that fits its strobe is the encoding of the strobe's instruction. -/
theorem encode_strobeInstr {n : Strobe} {v : Word} (h : strobeWf n v = true) :
    encode (strobeInstr n v) = .strobe n v := by
  have hv : v.toNat < 2 ^ n.payloadBits := of_decide_eq_true h
  cases n with
  | wrPeriod | wrDutyA | wrDutyB => rfl
  | outDisable | outEnable =>
    have hzero : v = 0 := BitVec.eq_of_toNat_eq (Nat.lt_one_iff.mp hv)
    rw [hzero]; rfl
  | indSet =>
    have hbit : v = 0 ∨ v = 1 := by
      have : v.toNat < 2 := hv
      bv_omega
    obtain rfl | rfl := hbit <;> rfl

/-- A strobe's raw form that passes its check decodes to the strobe's instruction. -/
theorem decode_strobe {n : Strobe} {v : Word} (h : (Encoded.strobe n v).wf = true) :
    decode (.strobe n v) = .ok (strobeInstr n v) :=
  if_pos h

/-! ### The obligations -/

/-- Settles O1, instruction by instruction: the encoder's raw forms pass their checks (`Laws.Encodes`), and the decoder
finds every operand where the encoder put it. -/
theorem decodeInvertsEncode : Obligations.DecodeInvertsEncode := by
  intro i
  cases i with
  | light c b => exact congrArg Except.ok (decodeByte_byteOf c b)
  | rxframe d => exact decodeFrame_frameOf d
  | indSet on => cases on <;> rfl
  | outDisable => exact decode_strobe Laws.Encodes.outDisable
  | wrPeriod v => exact decode_strobe (Laws.Encodes.wrPeriod v)
  | wrDutyA v => exact decode_strobe (Laws.Encodes.wrDutyA v)
  | wrDutyB v => exact decode_strobe (Laws.Encodes.wrDutyB v)
  | outEnable => exact decode_strobe Laws.Encodes.outEnable

/-- Settles O2, form by form: what decodes is well formed, and a well-formed raw form is put together again from what
the decoder took out of it. -/
theorem encodeInvertsDecode : Obligations.EncodeInvertsDecode := by
  intro x i h
  cases x with
  | controlByte w =>
    cases h
    exact congrArg Encoded.controlByte (Machine.byteOf_fields w)
  | serialFrame f =>
    obtain ⟨hwf, rfl⟩ := decodeFrame_eq_ok_iff.mp h
    exact congrArg Encoded.serialFrame (frameOf_extract hwf)
  | strobe n v =>
    cases hwf : strobeWf n v with
    | true =>
      cases (decode_strobe hwf).symm.trans h
      exact encode_strobeInstr hwf
    | false => simp [decode, hwf] at h

/-- Settles O3: the operands are the two fields, and the two fields make up the byte. -/
theorem fetchedByteIsLightOfItsNibbles : Obligations.FetchedByteIsLightOfItsNibbles := by
  intro s hp hr
  have hfetch : Machine.sequencerInstr s = some (decodeByte s.rxLatch) := by
    simp only [Machine.sequencerInstr, hp, hr, if_true]
  have hc := toNat_codeField s.rxLatch
  have hb := toNat_levelField s.rxLatch
  exact ⟨_, _, hfetch, hc, hb, by omega⟩

/-- Settles O4: the bits in time order are the frame whose last bit is the stop bit. -/
theorem frameBitsInTimeOrder : Obligations.FrameBitsInTimeOrder := by
  intro d
  have hline : ∀ stop : Bool, decodeLine [false, d.getLsbD 0, d.getLsbD 1, d.getLsbD 2, d.getLsbD 3, d.getLsbD 4,
      d.getLsbD 5, d.getLsbD 6, d.getLsbD 7, stop] = if stop then .ok (.rxframe d) else .error .framingError :=
    fun stop => (congrArg decodeFrame (ofBoolListLE_bits d stop)).trans (decodeFrame_framed stop d)
  exact ⟨hline true, hline false⟩

/-- Settles O5: each word is the encoding of an instruction, or fails its check. -/
theorem specWordsDecode : Obligations.SpecWordsDecode :=
  ⟨decodeByte_byteOf 7 8, decodeByte_byteOf 1 14, decodeByte_byteOf 8 15, decodeFrame_framed true 0x78,
    decodeFrame_framed false 0x78, decodeInvertsEncode (.indSet true), rfl, decodeInvertsEncode (.wrDutyA 840)⟩

end Sys2Proof

/-! ## What an encoded instruction does when it runs (O9, O11, O20, O45) -/

namespace Sys2Proof.Machine

/-- Settles O9: a placed control byte is what the sequencer fetches next, a placed frame what the line carries next
(`stepRunsTheFetchedInstruction`). -/
theorem placedWordRunsNext : Obligations.PlacedWordRunsNext := by
  intro s nbits w i h
  obtain ⟨hseq, hline⟩ := stepRunsTheFetchedInstruction
  unfold decodeTableWord at h
  unfold State.withFetchWord placeWord
  by_cases h8 : nbits = 8
  · rw [if_pos h8] at h ⊢
    exact hseq _ i s.script rfl h
  · rw [if_neg h8] at h ⊢
    by_cases h10 : nbits = 10 ∨ nbits = 16
    · rw [if_pos h10] at h ⊢
      have hframe : decodeFrame (BitVec.ofNat 10 w) = .ok i := decodeFrame_of_toOption h
      exact hline _ _ i s.script rfl hframe
    · simp [h10] at h

/-- The range check never fires on LIGHT's pair, whatever the operands (R117). -/
theorem rangeViolation_lightDuties (p : PwmPeriod) (c b : Nibble) :
    rangeViolation p (lightDuties p c b).cool (lightDuties p c b).warm = false := by
  obtain ⟨hc, hb⟩ := fields_byteOf c b
  simpa only [byteDuties, hc, hb] using rangeViolation_byteDuties p (byteOf c b)

/-- Settles O11: the take writes the byte and the pair, and the range check passes. -/
theorem lightWithAnyOperands : Obligations.LightWithAnyOperands := by
  intro c b s
  rw [exec_eq, ← State.takeEnabled_iff]
  refine ⟨fun he => ⟨_, if_pos he, ?_⟩, fun he => if_neg he⟩
  rw [State.takeByte_eq, rangeViolation_lightDuties]
  exact ⟨toNat_byteOf c b, rfl⟩

/-- Outside the phase it ends, a strobe does not move the sequencer on. -/
theorem State.advanceFrom_of_ne {s : State} {p : Phase} (h : s.phase ≠ p) : s.advanceFrom p = s :=
  if_neg h

/-- Settles O20: the register is written before the phase is looked at, and no timer register is PHASE. -/
theorem strobeOutsideItsPhaseKeepsThePhase : Obligations.StrobeOutsideItsPhaseKeepsThePhase := by
  intro s v
  simp only [exec_eq]
  exact ⟨fun h => congrArg _ (State.advanceFrom_of_ne (s := s.setOutEn false) h),
    fun h => congrArg _ (State.advanceFrom_of_ne (s := s.setPeriod v) h),
    fun h => congrArg _ (State.advanceFrom_of_ne (s := s.setDutyA v) h),
    fun h => congrArg _ (State.advanceFrom_of_ne (s := s.setDutyB v) h),
    fun h => congrArg _ (State.advanceFrom_of_ne (s := s.setOutEn true) h)⟩

/-- Settles O45: a frame whose stop bit is 0 fails its check, and `tx_ready` has no effect. -/
theorem nothingDeliveredNothingChanged : Obligations.NothingDeliveredNothingChanged := by
  refine fun s => ⟨fun f hstop => ?_, rfl⟩
  have hwf : frameWf f = false := by rw [frameWf, hstop, Bool.and_false]
  simp [perform_eq, hwf]

end Sys2Proof.Machine

/-! ## Sending a byte (O38)

`send` is one receive step and thirteen sequencer steps (R48): at most six finish the update in progress, seven take the
byte and show it, and those left over find the sequencer with nothing to do. -/

namespace Sys2Proof.Machine

/-- The event `rx(d)` latches `d` (R100). -/
theorem perform_rx (d : Byte) (s : State) : perform (.rx d) s = .next (s.latchByte d) := by
  simp only [Event.rx, perform, receiveLine, decodeFrame_frameOf]
  rfl

/-- How many sequencer steps a phase is away from IDLE (R90). -/
def Phase.stepsToIdle : Phase → Nat
  | .idle => 0
  | .aInd => 6
  | .aStop => 5
  | .aPeriod => 4
  | .aDutyA => 3
  | .aDutyB => 2
  | .aStart => 1
  | .halt => 0

/-- The state an update from `s` ends in: the mailbox's byte is taken and its outputs are shown (R92, R94). -/
def State.updated (s : State) : State :=
  { s with
    rxPending := false, phase := .idle, curByte := s.rxLatch
    cool := (byteDuties s.pwmPeriod s.rxLatch).cool, warm := (byteDuties s.pwmPeriod s.rxLatch).warm
    ind := indicatorOn (levelField s.rxLatch), period := s.pwmPeriod.ticks
    dutyA := (byteDuties s.pwmPeriod s.rxLatch).cool, dutyB := (byteDuties s.pwmPeriod s.rxLatch).warm
    outEn := true }

theorem State.updated_shows (s : State) : Shows s.updated s.rxLatch := ⟨rfl, rfl, rfl, rfl, rfl, rfl⟩

theorem State.updated_quiescent (s : State) : s.updated.quiescent = true := rfl

/-- An update with the byte already shown by one changes nothing (R95). -/
theorem State.updated_latchByte_updated (s : State) : (s.updated.latchByte s.rxLatch).updated = s.updated := rfl

/-! ### Sequencer steps in a row -/

section

variable {s t : State}

/-- Sequencer steps go on from where the first of them end. -/
theorem performAll_seqs_add {m : Nat} (n : Nat) (h : performAll (List.replicate m .seq) s = .next t) :
    performAll (List.replicate (m + n) .seq) s = performAll (List.replicate n .seq) t := by
  rw [List.replicate_add, performAll_append _ _ h]

/-- In a quiescent state sequencer steps change nothing (R99; log 6). -/
theorem performAll_seqs_of_quiescent (h : s.quiescent = true) (n : Nat) :
    performAll (List.replicate n .seq) s = .next s := by
  obtain ⟨hp, hr⟩ := (State.quiescent_iff s).mp h
  have hstep : perform .seq s = .next s := by simp [perform_eq, sequencerStep_eq, hp, hr]
  induction n with
  | zero => rfl
  | succ n ih => rw [List.replicate_succ, performAll_cons_next hstep, ih]

/-- From IDLE with a byte pending, seven or more sequencer steps complete its update (R92). -/
theorem performAll_seqs_updated (hp : s.phase = .idle) (hr : s.rxPending = true) {n : Nat} (hn : 7 ≤ n) :
    performAll (List.replicate n .seq) s = .next s.updated := by
  obtain ⟨k, rfl⟩ := Nat.exists_eq_add_of_le hn
  have htake : perform .seq s = .next ((s.beginUpdate s.rxLatch (byteDuties s.pwmPeriod s.rxLatch).cool
      (byteDuties s.pwmPeriod s.rxLatch).warm).setPhase .aInd) := by
    simp [perform_eq, sequencerStep_eq, hp, hr, State.takeByte_eq, rangeViolation_byteDuties]
  have hseven : performAll (List.replicate 7 .seq) s = .next s.updated := by
    rw [List.replicate_succ, performAll_cons_next htake]
    rfl
  rw [performAll_seqs_add k hseven, performAll_seqs_of_quiescent s.updated_quiescent]

/-- A step of the update in progress leads to the next phase and leaves the mailbox alone (R90). -/
theorem perform_seq_of_updating (h : s.phase.updating = true) :
    ∃ t, perform .seq s = .next t ∧
      t.phase = s.phase.next ∧ t.rxLatch = s.rxLatch ∧ t.rxPending = s.rxPending := by
  simp only [perform_eq, sequencerStep_eq]
  cases hp : s.phase with
  | idle | halt => simp [hp, Phase.updating] at h
  | aInd | aStop | aPeriod | aDutyA | aDutyB | aStart => exact ⟨_, rfl, rfl, rfl, rfl⟩

/-- The update in progress ends in IDLE, in as many steps as its phase is away, with the mailbox as it was. -/
theorem performAll_seqs_to_idle (h : s.phase ≠ .halt) :
    ∃ t, performAll (List.replicate s.phase.stepsToIdle .seq) s = .next t ∧
      t.phase = .idle ∧ t.rxLatch = s.rxLatch ∧ t.rxPending = s.rxPending := by
  induction hn : s.phase.stepsToIdle generalizing s with
  | zero =>
    have hp : s.phase = .idle := by cases hp : s.phase <;> simp_all [Phase.stepsToIdle]
    exact ⟨s, rfl, hp, rfl, rfl⟩
  | succ n ih =>
    have hrow : s.phase.updating = true ∧ s.phase.next ≠ .halt ∧ s.phase.next.stepsToIdle = n := by
      cases hp : s.phase <;> simp_all [Phase.stepsToIdle, Phase.updating, Phase.next]
    obtain ⟨hup, hnext, hleft⟩ := hrow
    obtain ⟨u, hu, hphase, hlatch, hpending⟩ := perform_seq_of_updating hup
    obtain ⟨t, ht, hidle, hlatch', hpending'⟩ := ih (hphase ▸ hnext) (hphase ▸ hleft)
    exact ⟨t, (performAll_cons_next hu).trans ht, hidle, hlatch'.trans hlatch, hpending'.trans hpending⟩

theorem Phase.stepsToIdle_le (p : Phase) : p.stepsToIdle ≤ 6 := by
  cases p <;> decide

/-- With a byte pending, `run` ends in the state its update leads to, begun where the update in progress ends. -/
theorem performAll_runEvents (h : s.phase ≠ .halt) (hr : s.rxPending = true) :
    ∃ u : State, u.rxLatch = s.rxLatch ∧ performAll runEvents s = .next u.updated := by
  obtain ⟨u, hu, hidle, hlatch, hpending⟩ := performAll_seqs_to_idle h
  have hle := s.phase.stepsToIdle_le
  refine ⟨u, hlatch, ?_⟩
  calc performAll runEvents s
      = performAll (List.replicate (s.phase.stepsToIdle + (13 - s.phase.stepsToIdle)) .seq) s := by
        rw [Nat.add_sub_cancel' (by omega)]; rfl
    _ = performAll (List.replicate (13 - s.phase.stepsToIdle) .seq) u := performAll_seqs_add _ hu
    _ = .next u.updated := performAll_seqs_updated hidle (hpending.trans hr) (by omega)

end

/-- `send` is `run` with the byte in the mailbox (R48). -/
theorem performAll_sendEvents (c b : Nibble) (s : State) :
    performAll (sendEvents c b) s = performAll runEvents (s.latchByte (byteOf c b)) :=
  performAll_cons_next (perform_rx _ s)

/-- Settles O38: the first `send` ends in an updated state `u.updated`, where the second's update begins at once and
writes what is there. -/
theorem sendingAByteShowsItTwiceAlike : Obligations.SendingAByteShowsItTwiceAlike := by
  intro s c b h
  obtain ⟨u, hlatch, hrun⟩ := performAll_runEvents (s := s.latchByte (byteOf c b)) h rfl
  have hbyte : u.rxLatch = byteOf c b := hlatch
  refine ⟨u.updated, (performAll_sendEvents c b s).trans hrun, u.updated_quiescent, hbyte ▸ u.updated_shows, ?_⟩
  calc performAll (sendEvents c b) u.updated
      = performAll runEvents (u.updated.latchByte (byteOf c b)) := performAll_sendEvents c b u.updated
    _ = .next (u.updated.latchByte (byteOf c b)).updated := performAll_seqs_updated (n := 13) rfl rfl (by decide)
    _ = .next u.updated := by rw [← hbyte, State.updated_latchByte_updated]

end Sys2Proof.Machine

/-! ## The colour mixer (O23 to O31)

With `U = unitDuty P` and `K = codeDuty P`, everything rests on `15*K <= U` (R56): coolDuty is the product `K*c*b`,
warmDuty the product `(U - K*c)*b`, they sum to `U*b`, and `U*b <= P + 1` fits 16 bits, so `lightDuties` narrows
nothing.
-/

namespace Sys2Proof.Machine

section
variable {P c b : Nat}

/-! ### The duties in naturals -/

theorem fifteen_mul_unitDuty_le (P : Nat) : 15 * unitDuty P ≤ P + 1 :=
  Nat.mul_div_le (P + 1) 15

theorem fifteen_mul_codeDuty_le (P : Nat) : 15 * codeDuty P ≤ unitDuty P := by
  have hcode : codeDuty P = unitDuty P / 15 := (Nat.div_div_eq_div_mul (P + 1) 15 15).symm
  exact hcode ▸ Nat.mul_div_le (unitDuty P) 15

theorem codeDuty_mul_le (hc : c ≤ 15) : codeDuty P * c ≤ unitDuty P :=
  calc codeDuty P * c ≤ codeDuty P * 15 := Nat.mul_le_mul_left _ hc
    _ = 15 * codeDuty P := Nat.mul_comm _ _
    _ ≤ unitDuty P := fifteen_mul_codeDuty_le P

theorem codeDuty_mul_mul_le (b : Nat) (hc : c ≤ 15) : codeDuty P * c * b ≤ unitDuty P * b :=
  Nat.mul_le_mul_right b (codeDuty_mul_le hc)

theorem unitDuty_mul_le_fifteen (hb : b ≤ 15) : unitDuty P * b ≤ 15 * unitDuty P :=
  Nat.mul_comm 15 _ ▸ Nat.mul_le_mul_left _ hb

theorem unitDuty_mul_le (hb : b ≤ 15) : unitDuty P * b ≤ P + 1 :=
  (unitDuty_mul_le_fifteen hb).trans (fifteen_mul_unitDuty_le P)

theorem warmDuty_eq_mul (P c b : Nat) : warmDuty P c b = (unitDuty P - codeDuty P * c) * b :=
  (Nat.sub_mul ..).symm

theorem coolDuty_eq_mul (b : Nat) (hc : c ≤ 15) : coolDuty P c b = codeDuty P * c * b :=
  Nat.sub_sub_self (codeDuty_mul_mul_le b hc)

theorem coolDuty_add_warmDuty (P c b : Nat) : coolDuty P c b + warmDuty P c b = unitDuty P * b :=
  Nat.sub_add_cancel (Nat.sub_le _ _)

/-- A share of the whole in `n ≤ d` truncated parts of size `m / d` is all of it only if nothing was truncated and all
parts are taken. -/
theorem div_mul_eq_self_iff {m n d : Nat} (hm : 0 < m) (hn : n ≤ d) : m / d * n = m ↔ d ∣ m ∧ n = d := by
  constructor
  · intro h
    have hwhole : m / d * d = m :=
      Nat.le_antisymm (Nat.div_mul_le_self m d) (h.symm.trans_le (Nat.mul_le_mul_left _ hn))
    have hpart : 0 < m / d := Nat.pos_of_mul_pos_right (hwhole.symm ▸ hm)
    exact ⟨Dvd.intro_left _ hwhole, Nat.eq_of_mul_eq_mul_left hpart (h.trans hwhole.symm)⟩
  · rintro ⟨hdvd, rfl⟩
    exact Nat.div_mul_cancel hdvd

/-- When the whole brightness is `P + 1` (R57): the period divides into units and the brightness is 15. -/
theorem unitDuty_mul_eq_iff (hb : b ≤ 15) : unitDuty P * b = P + 1 ↔ 15 ∣ P + 1 ∧ b = 15 :=
  div_mul_eq_self_iff P.succ_pos hb

theorem mul_le_225 (hc : c ≤ 15) (hb : b ≤ 15) : c * b ≤ 225 := Nat.mul_le_mul hc hb

theorem mul_eq_225_iff (hc : c ≤ 15) (hb : b ≤ 15) : c * b = 225 ↔ c = 15 ∧ b = 15 := by
  refine ⟨fun h => ?_, by rintro ⟨rfl, rfl⟩; rfl⟩
  have hcode : c * b ≤ c * 15 := Nat.mul_le_mul_left c hb
  obtain rfl : c = 15 := by omega
  exact ⟨rfl, by omega⟩

/-- When coolDuty is `P + 1` (R57). -/
theorem coolDuty_eq_succ_iff (hc : c ≤ 15) (hb : b ≤ 15) :
    coolDuty P c b = P + 1 ↔ 225 ∣ P + 1 ∧ c = 15 ∧ b = 15 := by
  rw [coolDuty_eq_mul b hc, Nat.mul_assoc, ← mul_eq_225_iff hc hb]
  exact div_mul_eq_self_iff P.succ_pos (mul_le_225 hc hb)

/-- When warmDuty is `P + 1` (R57 with R63): the whole brightness is, and the code has no effect. -/
theorem warmDuty_eq_succ_iff (hc : c ≤ 15) (hb : b ≤ 15) :
    warmDuty P c b = P + 1 ↔ 15 ∣ P + 1 ∧ b = 15 ∧ (c = 0 ∨ P + 1 < 225) := by
  have hsum := coolDuty_add_warmDuty P c b
  have hle := unitDuty_mul_le (P := P) hb
  have hsplit : warmDuty P c b = P + 1 ↔ unitDuty P * b = P + 1 ∧ coolDuty P c b = 0 := by omega
  rw [hsplit, unitDuty_mul_eq_iff hb, and_assoc]
  refine and_congr_right fun _ => and_congr_right ?_
  rintro rfl
  simp [coolDuty_eq_mul 15 hc, codeDuty, or_comm]

end

/-! ### The duties in 16 bits -/

section
variable (p : PwmPeriod) (c b : Nibble)

theorem toNat_nibble_le : b.toNat ≤ 15 := Nat.le_of_lt_succ b.isLt

theorem succ_ticks_le : p.ticks.toNat + 1 ≤ 65535 := Nat.succ_le_succ p.legal.2

/-- `P + 1` does not wrap, so a quotient of it in 16-bit words is the one in naturals (R64). -/
theorem succ_ticks_div (n : Word) : (p.ticks + 1) / n = BitVec.ofNat 16 ((p.ticks.toNat + 1) / n.toNat) := by
  have hsucc : p.ticks + 1 = BitVec.ofNat 16 (p.ticks.toNat + 1) := by
    rw [BitVec.ofNat_add, BitVec.ofNat_toNat, BitVec.setWidth_eq]
    rfl
  rw [hsucc, BitVec.udiv_def, BitVec.toNat_ofNat, Nat.mod_eq_of_lt (Nat.lt_succ_of_le (succ_ticks_le p))]

theorem unitDuty_mul_lt : unitDuty p.ticks.toNat * b.toNat < 2 ^ 16 :=
  Nat.lt_succ_of_le ((unitDuty_mul_le (toNat_nibble_le b)).trans (succ_ticks_le p))

theorem toNat_lightDuties_cool : (lightDuties p c b).cool.toNat = coolDuty p.ticks.toNat c.toNat b.toNat :=
  Nat.mod_eq_of_lt ((Nat.sub_le _ _).trans_lt (unitDuty_mul_lt p b))

theorem toNat_lightDuties_warm : (lightDuties p c b).warm.toNat = warmDuty p.ticks.toNat c.toNat b.toNat :=
  Nat.mod_eq_of_lt ((Nat.sub_le _ _).trans_lt (unitDuty_mul_lt p b))

theorem lightDuties_sum : (lightDuties p c b).cool.toNat + (lightDuties p c b).warm.toNat =
    unitDuty p.ticks.toNat * b.toNat := by
  rw [toNat_lightDuties_cool, toNat_lightDuties_warm, coolDuty_add_warmDuty]

/-- No brightness in units, no duty: both are parts of `U*b`. -/
theorem lightDuties_eq_zero (h : unitDuty p.ticks.toNat * b.toNat = 0) : lightDuties p c b = ⟨0, 0⟩ := by
  simp [lightDuties, coolDuty, warmDuty, h]

/-- Brightness 0 is off, whatever the code (R59). -/
theorem lightDuties_level_zero : lightDuties p c 0 = ⟨0, 0⟩ :=
  lightDuties_eq_zero p c 0 (Nat.mul_zero _)

/-- No product `K*c*b`, no coolDuty (R54). -/
theorem lightDuties_cool_eq_zero (h : codeDuty p.ticks.toNat * c.toNat = 0) : (lightDuties p c b).cool = 0 :=
  BitVec.eq_of_toNat_eq (by simp [toNat_lightDuties_cool, coolDuty_eq_mul _ (toNat_nibble_le c), h])

end

/-! ### The obligations -/

/-- Settles O25: `K` is `U / 15`. -/
theorem noUnderflow : Obligations.NoUnderflow := fun P =>
  ⟨fifteen_mul_codeDuty_le P, fun c b hc =>
    ⟨Nat.sub_add_cancel (codeDuty_mul_mul_le b hc), coolDuty_add_warmDuty P c b⟩⟩

/-- Settles O24: the outer subtraction gives back what the inner one took. -/
theorem dutiesInClosedForm : Obligations.DutiesInClosedForm := fun P c b hc =>
  ⟨coolDuty_eq_mul b hc, rfl, (warmDuty_eq_mul P c b).trans (Nat.mul_comm _ _)⟩

/-- Settles O28: the narrowed duties are the naturals, which add up. -/
theorem dutiesConserveBrightness : Obligations.DutiesConserveBrightness := lightDuties_sum

/-- Settles O23: the equations are R54's; each corner case makes `U*b` or `K*c` zero. -/
theorem lightComputesTheFormula : Obligations.LightComputesTheFormula := by
  refine ⟨fun p c b => ?_, by decide, by decide⟩
  have hle := codeDuty_mul_mul_le (P := p.ticks.toNat) b.toNat (toNat_nibble_le c)
  have hsum := lightDuties_sum p c b
  refine ⟨hle, ?_, hsum, ?_, ?_, ?_, ?_⟩
  · rw [toNat_lightDuties_warm]
    exact Nat.sub_add_cancel hle
  · exact fun hb => hb ▸ lightDuties_level_zero p c
  · rintro rfl
    have hcool : (lightDuties p 0 b).cool = 0 := lightDuties_cool_eq_zero p 0 b (Nat.mul_zero _)
    rw [hcool] at hsum
    exact ⟨hcool, (Nat.zero_add _).symm.trans hsum⟩
  · intro hP
    have hunit : unitDuty p.ticks.toNat = 0 := Nat.div_eq_of_lt hP
    exact lightDuties_eq_zero p c b (by rw [hunit, Nat.zero_mul])
  · rintro ⟨-, hP⟩
    have hcode : codeDuty p.ticks.toNat = 0 := Nat.div_eq_of_lt hP
    exact lightDuties_cool_eq_zero p c b (by rw [hcode, Nat.zero_mul])

/-- Settles O26: each duty is a part of `U*b`, and the bound is attained by warmDuty or by coolDuty. -/
theorem dutyRange : Obligations.DutyRange := by
  intro p c b
  have hc := toNat_nibble_le c
  have hb := toNat_nibble_le b
  have hsum := lightDuties_sum p c b
  refine ⟨Nat.le.intro hsum, Nat.le.intro ((Nat.add_comm _ _).trans hsum), unitDuty_mul_le_fifteen hb,
    fifteen_mul_unitDuty_le _, succ_ticks_le p, ?_⟩
  rw [toNat_lightDuties_cool, toNat_lightDuties_warm, coolDuty_eq_succ_iff hc hb, warmDuty_eq_succ_iff hc hb]
  have hdvd : 225 ∣ p.ticks.toNat + 1 → 15 ∣ p.ticks.toNat + 1 := Nat.dvd_trans (by decide)
  simp only [← BitVec.toNat_inj, BitVec.reduceToNat]
  tauto

/-- Refutes O27: at `P = 14` the byte `0x1F` gives warmDuty 15, which is `P + 1`, with a code that is neither 0 nor
15. -/
theorem not_boundAttainedAsWorded : ¬ Obligations.BoundAttainedAsWorded := by
  intro h
  exact absurd (h ⟨14, by decide⟩ 1 15) (by decide)

/-- Settles O29: the duties sum to `U*b`, and a period of 15 ticks or more has a unit. -/
theorem brightnessZeroIsOff : Obligations.BrightnessZeroIsOff := by
  refine fun p c b => ⟨?_, fun hP hb => ?_⟩
  · exact fun hb => hb ▸ lightDuties_level_zero p c
  · have hunit : 0 < unitDuty p.ticks.toNat := Nat.div_pos hP (by decide)
    have hlevel : 0 < b.toNat := Nat.pos_of_ne_zero fun h => hb (BitVec.eq_of_toNat_eq h)
    exact lightDuties_sum p c b ▸ Nat.mul_pos hunit hlevel

/-- Settles O30: coolDuty is `(K*c)*b` and warmDuty `(U - K*c)*b`, with `K*c <= U`. -/
theorem dutiesAreMonotone : Obligations.DutiesAreMonotone := by
  intro p c c' b b'
  have hc' := toNat_nibble_le c'
  simp only [toNat_lightDuties_cool, toNat_lightDuties_warm, warmDuty_eq_mul, coolDuty_eq_mul _ hc',
    coolDuty_eq_mul _ (toNat_nibble_le c)]
  refine ⟨fun hcode => ⟨by gcongr, by gcongr⟩, fun hcode hb hK => ?_, fun hlevel => ⟨by gcongr, by gcongr⟩⟩
  have hshare : codeDuty p.ticks.toNat * c.toNat < codeDuty p.ticks.toNat * c'.toNat :=
    Nat.mul_lt_mul_of_pos_left hcode hK
  have hrest := Nat.sub_lt_sub_left (hshare.trans_le (codeDuty_mul_le hc')) hshare
  exact ⟨Nat.mul_lt_mul_of_pos_right hshare hb, Nat.mul_lt_mul_of_pos_right hrest hb⟩

/-- Settles O31: no intermediate wraps, so word by word the formula is `lightDuties`, narrowed from the naturals. -/
theorem sixteenBitArithmeticSuffices : Obligations.SixteenBitArithmeticSuffices := by
  intro p c b
  have hP := succ_ticks_le p
  have hc := toNat_nibble_le c
  have hb := toNat_nibble_le b
  have hcode : (p.ticks.toNat + 1) / 225 ≤ 291 := by omega
  refine ⟨hP, by omega, hcode, mul_le_225 hc hb, (unitDuty_mul_le hb).trans hP, ?_, ?_⟩
  · exact Nat.mul_assoc .. ▸ Nat.mul_le_mul hcode (mul_le_225 hc hb)
  · have hunit : (p.ticks + 1) / 15 = BitVec.ofNat 16 (unitDuty p.ticks.toNat) := succ_ticks_div p 15
    have hK : (p.ticks + 1) / 225 = BitVec.ofNat 16 (codeDuty p.ticks.toNat) := succ_ticks_div p 225
    have hbase := unitDuty_mul_lt p b
    have htaken := codeDuty_mul_mul_le (P := p.ticks.toNat) b.toNat hc
    simp only [hunit, hK, ← BitVec.ofNat_toNat, ← BitVec.ofNat_mul,
      BitVec.ofNat_sub_ofNat_of_le _ _ (htaken.trans_lt hbase) htaken,
      BitVec.ofNat_sub_ofNat_of_le _ _ ((Nat.sub_le _ _).trans_lt hbase) (Nat.sub_le _ _)]
    rfl

end Sys2Proof.Machine

/-! ## The comparators, the pins and the five timer strobes (O15 to O19, O50)

A pin is its comparator's output inverted. In its phase a strobe writes its register and moves the sequencer on, which
is both `exec` of the strobe and the sequencer's step. -/

namespace Sys2Proof.Machine

section

variable (s : State)

theorem State.litA_eq : s.litA = (s.outEn && decide (s.cnt.toNat < s.dutyA.toNat)) := rfl

theorem State.litB_eq : s.litB = (s.outEn && decide (s.cnt.toNat < s.dutyB.toNat)) := rfl

/-- With the one polarity and the one idle level this block has, a pin is the inverse of lit (R74). -/
theorem pinLevel_eq (pol : Polarity) (idle : IdleLevel) (isLit : Bool) : pinLevel pol idle isLit = !isLit := by
  cases pol; cases idle; cases isLit <;> rfl

theorem State.pinA_eq : s.pinA = !(s.outEn && decide (s.cnt.toNat < s.dutyA.toNat)) := pinLevel_eq ..

theorem State.pinB_eq : s.pinB = !(s.outEn && decide (s.cnt.toNat < s.dutyB.toNat)) := pinLevel_eq ..

end

section

variable {s : State}

/-- A disabled channel is not lit (R73). -/
theorem State.unlit_of_disabled (h : s.outEn = false) : s.litA = false ∧ s.litB = false := by
  rw [State.litA_eq, State.litB_eq, h]
  exact ⟨rfl, rfl⟩

/-! With the outputs disabled both channel pins are at the idle level (R74). -/

theorem State.pinA_of_disabled (h : s.outEn = false) : s.pinA = true := by
  rw [State.pinA_eq, h]; rfl

theorem State.pinB_of_disabled (h : s.outEn = false) : s.pinB = true := by
  rw [State.pinB_eq, h]; rfl

/-- In the phase it ends, a strobe moves the sequencer on. -/
theorem State.advanceFrom_of_eq {p : Phase} (h : s.phase = p) : s.advanceFrom p = s.setPhase p.next :=
  if_pos h

end

/-- Settles O50: `litA_eq`, `litB_eq` and `pinLevel_eq`; neither channel's comparator reads the other's duty. -/
theorem pinsFollowTheComparators : Obligations.PinsFollowTheComparators := by
  intro s
  refine ⟨s.litA_eq, s.litB_eq, ?_, fun v => ⟨rfl, rfl⟩⟩
  simp only [State.pins, State.pinA, State.pinB, State.pinInd, pinLevel_eq]

/-- Settles O15: the strobe's writes, and the pins of a disabled block. -/
theorem outDisableBlanksTheChannels : Obligations.OutDisableBlanksTheChannels := by
  intro s h
  have hfetch : sequencerInstr s = some .outDisable := by rw [sequencerInstr, h]
  have hexec := State.advanceFrom_of_eq (s := s.setOutEn false) h
  exact ⟨hfetch, congrArg Host.Outcome.next hexec, State.pinA_of_disabled rfl, State.pinB_of_disabled rfl⟩

/-- Settles O19: the strobe's writes, and the pins of an enabled block. -/
theorem outEnableEndsTheUpdate : Obligations.OutEnableEndsTheUpdate := by
  intro s h
  have hfetch : sequencerInstr s = some .outEnable := by rw [sequencerInstr, h]
  have hexec := State.advanceFrom_of_eq (s := s.setOutEn true) h
  exact ⟨hfetch, congrArg Host.Outcome.next hexec, State.pinA_eq _, State.pinB_eq _⟩

/-- Settles O16: under the invariant PERIOD holds PWM_PERIOD already, and the write leaves it. -/
theorem wrPeriodReloadsThePeriod : Obligations.WrPeriodReloadsThePeriod := by
  intro s h
  have hfetch : sequencerInstr s = some (.wrPeriod s.pwmPeriod.ticks) := by rw [sequencerInstr, h]; rfl
  have hexec (v : Word) := State.advanceFrom_of_eq (s := s.setPeriod v) h
  refine ⟨fun v => congrArg Host.Outcome.next (hexec v), hfetch, fun hInv => ?_⟩
  rw [perform_eq, sequencerStep_eq, h, ← hInv.period]
  rfl

/-- Settles O17: in A_DUTY_A the invariant has the outputs disabled, and the write does not enable them. -/
theorem wrDutyALoadsCool : Obligations.WrDutyALoadsCool := by
  intro s h
  have hfetch : sequencerInstr s = some (.wrDutyA s.cool) := by rw [sequencerInstr, h]; rfl
  have hexec (v : Word) := State.advanceFrom_of_eq (s := s.setDutyA v) h
  refine ⟨fun v => congrArg Host.Outcome.next (hexec v), hfetch, fun hInv => ?_⟩
  have hgate : s.outEn = false := hInv.gated (by rw [h]; rfl)
  exact ⟨hgate, State.pinA_of_disabled hgate, State.pinA_of_disabled hgate⟩

/-- Settles O18: in A_DUTY_B the invariant has the outputs disabled, and the write does not enable them. -/
theorem wrDutyBLoadsWarm : Obligations.WrDutyBLoadsWarm := by
  intro s h
  have hfetch : sequencerInstr s = some (.wrDutyB s.warm) := by rw [sequencerInstr, h]; rfl
  have hexec (v : Word) := State.advanceFrom_of_eq (s := s.setDutyB v) h
  refine ⟨fun v => congrArg Host.Outcome.next (hexec v), hfetch, fun hInv => ?_⟩
  have hgate : s.outEn = false := hInv.gated (by rw [h]; rfl)
  exact ⟨hgate, State.pinB_of_disabled hgate, State.pinB_of_disabled hgate⟩

end Sys2Proof.Machine

/-! ## The counter (O47, O48)

Every event but reset moves CNT on once if it is a tick and leaves it otherwise. Along a run that keeps PERIOD the
counter is therefore `nextCount` iterated once for each tick, which is addition modulo PERIOD once CNT is below it. -/

namespace Sys2Proof.Machine

/-! ### Ticks -/

@[simp] theorem tickCount_append (es fs : List Event) : tickCount (es ++ fs) = tickCount es + tickCount fs :=
  List.count_append

@[simp] theorem tickCount_replicate (n : Nat) : tickCount (List.replicate n .tick) = n :=
  List.count_replicate_self

/-- A tick in naturals, also from a count the block never reaches (R72, R84). -/
theorem toNat_nextCount (period cnt : Word) :
    (nextCount period cnt).toNat = if cnt.toNat + 1 ≥ period.toNat then 0 else cnt.toNat + 1 := by
  unfold nextCount
  split
  case isTrue => rfl
  case isFalse h =>
    have hfits : cnt.toNat + 1 < 2 ^ 16 := (Nat.lt_of_not_le h).trans period.isLt
    exact BitVec.toNat_add_of_lt hfits

/-- Below PERIOD a tick is one step modulo PERIOD. -/
theorem toNat_nextCount_of_lt {period cnt : Word} (h : cnt.toNat < period.toNat) :
    (nextCount period cnt).toNat = (cnt.toNat + 1) % period.toNat := by
  rw [toNat_nextCount]
  split
  case isTrue hge => rw [show cnt.toNat + 1 = period.toNat by omega, Nat.mod_self]
  case isFalse hlt => rw [Nat.mod_eq_of_lt (Nat.lt_of_not_le hlt)]

/-- Ticks count modulo PERIOD (R72). -/
theorem toNat_nextCount_iterate {period cnt : Word} (h : cnt.toNat < period.toNat) (n : Nat) :
    ((nextCount period)^[n] cnt).toNat = (cnt.toNat + n) % period.toNat := by
  induction n with
  | zero => exact (Nat.mod_eq_of_lt h).symm
  | succ n ih =>
    have hlt : ((nextCount period)^[n] cnt).toNat < period.toNat := ih ▸ Nat.mod_lt _ (Nat.zero_lt_of_lt h)
    rw [Function.iterate_succ_apply', toNat_nextCount_of_lt hlt, ih, Nat.mod_add_mod, Nat.add_assoc]

/-- Settles O47: `toNat_nextCount`, whose condition the counts the block never reaches meet. -/
theorem tickAdvancesTheCounter : Obligations.TickAdvancesTheCounter := by
  intro s
  have hcnt := toNat_nextCount s.period s.cnt
  refine ⟨tick s, rfl, rfl, hcnt, fun h => BitVec.eq_of_toNat_eq (hcnt.trans (if_pos ?_))⟩
  obtain h | h := h
  · simp [h]
  · exact Nat.le_succ_of_le h

/-! ### Runs that keep PERIOD -/

/-- No event but a tick and reset writes CNT (R97, R79). -/
theorem cnt_of_perform {e : Event} {s t : State} (he : e ≠ .reset) (h : perform e s = .next t) :
    t.cnt = (nextCount s.period)^[tickCount [e]] s.cnt := by
  obtain ⟨-, -, -, -, hline, hseq⟩ := agentFrames e s t h
  cases e with
  | tick | txReady => cases h; rfl
  | seq => exact (hseq rfl).1
  | line f => exact (congrArg State.cnt (hline f rfl) :)
  | reset => exact absurd rfl he

/-- The events lead from `s` to `t`, and the timer has counted their ticks at the period of `s`. -/
structure CountedRun (s : State) (es : List Event) (t : State) : Prop where
  run : performAll es s = .next t
  period : t.period = s.period
  cnt : t.cnt = (nextCount s.period)^[tickCount es] s.cnt

section

variable {s t u : State} {es : List Event} {e : Event}

theorem CountedRun.nil (s : State) : CountedRun s [] s := ⟨rfl, rfl, rfl⟩

theorem performAll_snoc (h : performAll es s = .next t) (hu : perform e t = .next u) :
    performAll (es ++ [e]) s = .next u :=
  (performAll_append _ _ h).trans (performAll_cons_next hu)

theorem CountedRun.snoc (h : CountedRun s es t) (he : e ≠ .reset) (hu : perform e t = .next u)
    (hp : u.period = t.period) : CountedRun s (es ++ [e]) u where
  run := performAll_snoc h.run hu
  period := hp.trans h.period
  cnt := by
    rw [cnt_of_perform he hu, h.period, h.cnt, ← Function.iterate_add_apply, tickCount_append, Nat.add_comm]

/-- R72 along a run. -/
theorem CountedRun.toNat_cnt (h : CountedRun s es t) (hs : s.cnt.toNat < s.period.toNat) :
    t.cnt.toNat = (s.cnt.toNat + tickCount es) % s.period.toNat :=
  h.cnt ▸ toNat_nextCount_iterate hs _

/-! ### Runs from a state of the invariant -/

/-- Every list of events leads on, to a state of the invariant with the same PWM_PERIOD, and so the same PERIOD. -/
theorem Inv.performAll (h : Inv s) (es : List Event) :
    ∃ t, performAll es s = .next t ∧ Inv t ∧ t.pwmPeriod = s.pwmPeriod := by
  induction es generalizing s with
  | nil => exact ⟨s, rfl, h, rfl⟩
  | cons e es ih =>
    obtain ⟨u, hu, hInv⟩ := h.perform e
    obtain ⟨t, ht, hInv', hperiod⟩ := ih hInv
    obtain ⟨hperiod', -⟩ := agentFrames e s u hu
    exact ⟨t, (performAll_cons_next hu).trans ht, hInv', hperiod.trans hperiod'⟩

theorem Inv.of_performAll (h : Inv s) (ht : Machine.performAll es s = .next t) :
    Inv t ∧ t.pwmPeriod = s.pwmPeriod := by
  obtain ⟨u, hu, hInv⟩ := h.performAll es
  cases ht.symm.trans hu
  exact hInv

/-- Under the invariant one PWM_PERIOD is one PERIOD. -/
theorem Inv.period_eq (h : Inv s) (h' : Inv t) (hp : t.pwmPeriod = s.pwmPeriod) : t.period = s.period := by
  rw [h'.period, hp, h.period]

/-- No update disturbs the count (R79). -/
theorem Inv.countedRun (h : Inv s) (hreset : .reset ∉ es) (ht : Machine.performAll es s = .next t) :
    CountedRun s es t := by
  induction es using List.reverseRecOn generalizing t with
  | nil => cases ht; exact .nil s
  | append_singleton es e ih =>
    obtain ⟨hes, he⟩ : .reset ∉ es ∧ e ≠ .reset := by simpa [eq_comm] using hreset
    obtain ⟨u, hu, hInv, -⟩ := h.performAll es
    obtain ⟨v, hv, hInv'⟩ := hInv.perform e
    cases ht.symm.trans (performAll_snoc hu hv)
    obtain ⟨hperiod, -⟩ := agentFrames e u t hv
    exact (ih hes hu).snoc he hv (hInv.period_eq hInv' hperiod)

end

/-! ### Between two gate steps

The A_STOP step closes the gate and the A_START step opens it. Only these two, and reset, move the sequencer into the
phases that rewrite the timer, or out of them. -/

/-- The phase whose step ends a stretch of phases that rewrite the timer, or one of phases that do not. -/
def gatePhase (rewriting : Bool) : Phase := if rewriting then .aStart else .aStop

theorem rewriting_of_perform {e : Event} {s t : State} (he : e ≠ .reset)
    (hgate : e = .seq → s.phase ≠ gatePhase s.phase.rewriting) (h : perform e s = .next t) :
    t.phase.rewriting = s.phase.rewriting := by
  cases e with
  | tick | txReady => cases h; rfl
  | line f => obtain ⟨-, -, -, -, hline, -⟩ := agentFrames _ s t h; rw [hline f rfl]
  | reset => exact absurd rfl he
  | seq =>
    have hne := hgate rfl
    rw [perform_eq, sequencerStep_eq] at h
    cases hp : s.phase with
    | idle =>
      cases hr : s.rxPending with
      | false => simp only [hp, hr] at h; cases h; rw [hp]
      | true =>
        simp only [hp, hr, State.takeByte_eq, rangeViolation_byteDuties] at h
        cases h; rfl
    | aInd | aPeriod | aDutyA | aDutyB => simp only [hp] at h; cases h; rfl
    | aStop | aStart => exact absurd (by rw [hp]; rfl) hne
    | halt => simp [hp] at h

section

variable {sched : Nat → Event} {s : State} {i j k : Nat}

theorem mem_eventsBetween (hik : i < k) (hkj : k < j) : sched k ∈ eventsBetween sched i j := by
  induction j with
  | zero => exact absurd hkj k.not_lt_zero
  | succ j ih =>
    rw [eventsBetween_succ sched (by omega), List.mem_append, List.mem_singleton]
    obtain hlt | rfl := Nat.lt_or_eq_of_le (Nat.le_of_lt_succ hkj)
    · exact .inl (ih hlt)
    · exact .inr rfl

theorem ne_reset_of_between (hreset : .reset ∉ eventsBetween sched i j) (hik : i < k) (hkj : k < j) :
    sched k ≠ .reset :=
  fun he => hreset (he ▸ mem_eventsBetween hik hkj)

/-- Before the first step in phase `p`, the sequencer does not step in phase `p`. -/
theorem FirstStepAfter.phase_ne {p : Phase} {v : State} (h : FirstStepAfter sched s p i j) (hik : i < k) (hkj : k < j)
    (hseq : sched k = .seq) (hv : performAll (firstEvents sched k) s = .next v) : v.phase ≠ p := by
  obtain ⟨-, -, hnone⟩ := h
  exact fun hp => Bool.noConfusion ((hnone k hik hkj).symm.trans (isStep_iff.mpr ⟨hseq, v, hv, hp⟩))

theorem performAll_eventsBetween {t u : State} (hij : i < j)
    (ht : performAll (firstEvents sched (i + 1)) s = .next t) (hu : performAll (firstEvents sched j) s = .next u) :
    performAll (eventsBetween sched i j) t = .next u := by
  rw [← performAll_append _ _ ht, ← firstEvents_split sched hij, hu]

/-- From event `i` to the first step of its gate phase after it, the sequencer stays in the phases that rewrite the
timer, or stays out of them. -/
theorem rewriting_between {b : Bool} {t v : State} (h : Inv s) (hlast : FirstStepAfter sched s (gatePhase b) i j)
    (hreset : .reset ∉ eventsBetween sched i j) (ht : performAll (firstEvents sched (i + 1)) s = .next t)
    (hb : t.phase.rewriting = b) (hik : i < k) (hkj : k ≤ j) (hv : performAll (firstEvents sched k) s = .next v) :
    v.phase.rewriting = b := by
  induction k, Nat.succ_le_of_lt hik using Nat.le_induction generalizing v with
  | base => cases ht.symm.trans hv; exact hb
  | succ k hk ih =>
    obtain ⟨w, hw, hInv, -⟩ := h.performAll (firstEvents sched k)
    obtain ⟨x, hx, -⟩ := hInv.perform (sched k)
    cases hv.symm.trans (performAll_firstEvents_succ hw hx)
    have hrw : w.phase.rewriting = b := ih hk (Nat.le_of_succ_le hkj) hw
    have hgate : sched k = .seq → w.phase ≠ gatePhase w.phase.rewriting :=
      fun hseq => hrw ▸ hlast.phase_ne hk hkj hseq hw
    exact (rewriting_of_perform (ne_reset_of_between hreset hk hkj) hgate hx).trans hrw

end

/-- A count reduced modulo `P` from below `2 * P` has wrapped at most once. -/
theorem mod_eq_or_add_eq {n P : Nat} (h : n < 2 * P) : n % P = n ∨ n % P + P = n := by
  obtain hlt | hge := Nat.lt_or_ge n P
  · exact .inl (Nat.mod_eq_of_lt hlt)
  · right
    rw [Nat.mod_eq_sub_mod hge, Nat.mod_eq_of_lt (by omega), Nat.sub_add_cancel hge]

/-- Settles O48: a run from a state of the invariant is a `CountedRun`; after the A_STOP step the phases are those with
the outputs disabled, up to the A_START step. -/
theorem counterCountsTicksThroughUpdates : Obligations.CounterCountsTicksThroughUpdates := by
  refine ⟨fun s t es h hreset ht => (h.countedRun hreset ht).toNat_cnt h.count, ?_⟩
  rintro s sched i j h hblank
  obtain ⟨hstop, hstart, hreset⟩ := id hblank
  obtain ⟨hseq, t, ht, hphase⟩ := isStep_iff.mp hstop
  obtain ⟨u, hu, -⟩ := h.performAll (firstEvents sched j)
  have hclose : perform (sched i) t = .next ((t.setOutEn false).setPhase .aPeriod) := by
    rw [hseq, perform_eq, sequencerStep_eq, hphase]
  have hafter := performAll_firstEvents_succ ht hclose
  refine ⟨t, u, ht, hu, fun k v hik hkj hv => ?_, fun hshort => ?_⟩
  · obtain ⟨hInv, -⟩ := h.of_performAll hv
    have hgate := hInv.gated (rewriting_between h hstart hreset hafter rfl hik hkj hv)
    exact ⟨State.pinA_of_disabled hgate, State.pinB_of_disabled hgate⟩
  · obtain ⟨hInv, hperiod⟩ := h.of_performAll hafter
    have hcnt := (hInv.countedRun hreset (performAll_eventsBetween hstart.1 hafter hu)).toNat_cnt hInv.count
    have hticks := hshort i j hblank
    have hlt := hInv.count
    rw [hInv.period, hperiod] at hcnt hlt
    rw [hcnt]
    exact mod_eq_or_add_eq (by simp only [State.setPhase_cnt, State.setOutEn_cnt] at hlt ⊢; omega)

end Sys2Proof.Machine

/-! ## Lit ticks (O51, O52)

While the timer's registers stand still, a channel of duty `D` is lit at the ticks whose count, taken modulo PERIOD, is
below `D`: `min D PERIOD` of any PERIOD ticks in a row. -/

namespace Sys2Proof.Machine

/-! ### Counting -/

theorem count_mod_lt {n P : Nat} (D : Nat) (h : n ≤ P) : Nat.count (fun k => k % P < D) n = min D n := by
  induction n with
  | zero => simp
  | succ n ih =>
    rw [Nat.count_succ, ih (Nat.le_of_succ_le h), Nat.mod_eq_of_lt h]
    split <;> omega

/-- Of `P` numbers in a row, from any start, `min D P` are below `D` modulo `P`. -/
theorem count_mod_lt_cycle (D P a : Nat) : Nat.count (fun k => (a + k) % P < D) P = min D P := by
  have hcycleFirst := Nat.count_add (fun k => k % P < D) P a
  have hcycleLast := Nat.count_add (fun k => k % P < D) a P
  simp only [Nat.add_mod_left, count_mod_lt D P.le_refl, Nat.add_comm P a] at hcycleFirst
  omega

/-- Over whole cycles. -/
theorem count_mod_lt_cycles (D P a n : Nat) : Nat.count (fun k => (a + k) % P < D) (n * P) = n * min D P := by
  induction n with
  | zero => simp
  | succ n ih =>
    simp only [Nat.succ_mul, Nat.count_add, ih, ← Nat.add_assoc, count_mod_lt_cycle]

/-! ### Steady runs -/

/-- The registers that say when a channel is lit, CNT apart, are the same. -/
structure SameSetting (s t : State) : Prop where
  period : t.period = s.period
  dutyA : t.dutyA = s.dutyA
  dutyB : t.dutyB = s.dutyB
  outEn : t.outEn = s.outEn

/-- The events lead from `s` to `t` without a reset, none of them changing the timer's setting. -/
inductive SteadyRun (s : State) : List Event → State → Prop
  | nil : SteadyRun s [] s
  | snoc {es : List Event} {e : Event} {t u : State} : SteadyRun s es t → e ≠ .reset → perform e t = .next u →
      SameSetting t u → SteadyRun s (es ++ [e]) u

/-- Outside the phases A_STOP to A_START the sequencer leaves the timer alone, and so do the line and the ticks. -/
theorem perform_sameSetting {e : Event} {s : State} (he : e ≠ .reset)
    (hseq : e = .seq → s.phase = .idle ∨ s.phase = .aInd) : ∃ t, perform e s = .next t ∧ SameSetting s t := by
  cases e with
  | tick | txReady => exact ⟨_, rfl, rfl, rfl, rfl, rfl⟩
  | line f =>
    obtain ⟨-, hf⟩ | ⟨-, hf⟩ := receiveLine_cases f s <;> exact ⟨_, hf, rfl, rfl, rfl, rfl⟩
  | reset => exact absurd rfl he
  | seq =>
    simp only [perform_eq, sequencerStep_eq]
    obtain hp | hp := hseq rfl
    · cases hr : s.rxPending with
      | false => simp only [hp]; exact ⟨s, rfl, rfl, rfl, rfl, rfl⟩
      | true => simp only [hp, State.takeByte_eq]; exact ⟨_, rfl, rfl, rfl, rfl, rfl⟩
    · simp only [hp]; exact ⟨_, rfl, rfl, rfl, rfl, rfl⟩

/-- At how many of `n` ticks from `s` on a channel of duty `duty` is lit, the outputs enabled. -/
def State.litCount (s : State) (duty : Word) (n : Nat) : Nat :=
  Nat.count (fun k => (s.cnt.toNat + k) % s.period.toNat < duty.toNat) n

theorem State.litCount_cycles (s : State) (duty : Word) (n : Nat) :
    s.litCount duty (n * s.period.toNat) = n * min duty.toNat s.period.toNat :=
  count_mod_lt_cycles ..

theorem State.litCount_mono (s : State) (duty : Word) {m n : Nat} (h : m ≤ n) :
    s.litCount duty m ≤ s.litCount duty n :=
  Nat.count_monotone _ h

section

variable {s t u : State} {es : List Event} {e : Event}

theorem SteadyRun.countedRun (h : SteadyRun s es t) : CountedRun s es t := by
  induction h with
  | nil => exact .nil s
  | snoc _ he hu hsame ih => exact ih.snoc he hu hsame.period

theorem SteadyRun.sameSetting (h : SteadyRun s es t) : SameSetting s t := by
  induction h with
  | nil => exact ⟨rfl, rfl, rfl, rfl⟩
  | snoc _ _ _ hsame ih =>
    exact ⟨hsame.period.trans ih.period, hsame.dutyA.trans ih.dutyA, hsame.dutyB.trans ih.dutyB,
      hsame.outEn.trans ih.outEn⟩

/-- A channel whose comparator holds CNT against `duty` is lit at `litCount` of a steady run's ticks. -/
theorem SteadyRun.litTicks {isLit : State → Bool} {duty : Word} (h : SteadyRun s es t)
    (hs : s.cnt.toNat < s.period.toNat)
    (hlit : ∀ v, SameSetting s v → isLit v = decide (v.cnt.toNat < duty.toNat)) :
    litTicks isLit es s = s.litCount duty (tickCount es) := by
  induction h with
  | nil => rfl
  | @snoc es e t u hrun _ hu _ ih =>
    have hcnt := hrun.countedRun.toNat_cnt hs
    rw [litTicks_append _ _ _ hrun.countedRun.run, ih, tickCount_append]
    simp only [Machine.litTicks, hu, hlit t hrun.sameSetting, hcnt, decide_eq_true_eq]
    by_cases he : e = .tick
    · subst he
      simp [State.litCount, tickCount, Nat.count_succ]
    · simp [he, tickCount]

theorem litA_of_sameSetting (hs : s.outEn = true) (v : State) (h : SameSetting s v) :
    v.litA = decide (v.cnt.toNat < s.dutyA.toNat) := by
  rw [State.litA_eq, h.outEn, hs, h.dutyA, Bool.true_and]

theorem litB_of_sameSetting (hs : s.outEn = true) (v : State) (h : SameSetting s v) :
    v.litB = decide (v.cnt.toNat < s.dutyB.toNat) := by
  rw [State.litB_eq, h.outEn, hs, h.dutyB, Bool.true_and]

/-- Without a sequencer step and a reset every run is steady. -/
theorem exists_steadyRun (hseq : .seq ∉ es) (hreset : .reset ∉ es) : ∃ t, SteadyRun s es t := by
  induction es using List.reverseRecOn with
  | nil => exact ⟨s, .nil⟩
  | append_singleton es e ih =>
    obtain ⟨hes, he⟩ : .seq ∉ es ∧ e ≠ .seq := by simpa [eq_comm] using hseq
    obtain ⟨hes', he'⟩ : .reset ∉ es ∧ e ≠ .reset := by simpa [eq_comm] using hreset
    obtain ⟨t, ht⟩ := ih hes hes'
    obtain ⟨u, hu, hsame⟩ := perform_sameSetting (s := t) he' (fun h => absurd h he)
    exact ⟨u, ht.snoc he' hu hsame⟩

end

/-- Settles O51: the run is steady, one cycle of ticks is lit for one share, and CNT stays below PERIOD. -/
theorem litTicksPerCycle : Obligations.LitTicksPerCycle := by
  intro s es hon hcount hseq hreset
  obtain ⟨t, ht⟩ := exists_steadyRun (s := s) hseq hreset
  have hsame := ht.sameSetting
  have hcount' : t.cnt.toNat < s.period.toNat :=
    ht.countedRun.toNat_cnt hcount ▸ Nat.mod_lt _ (Nat.zero_lt_of_lt hcount)
  refine ⟨fun hticks => ?_, t, ht.countedRun.run, ?_⟩
  · have hcycle (duty : Word) : s.litCount duty (tickCount es) = min duty.toNat s.period.toNat := by
      simpa [hticks] using s.litCount_cycles duty 1
    rw [ht.litTicks hcount (litA_of_sameSetting hon), ht.litTicks hcount (litB_of_sameSetting hon)]
    exact ⟨hcycle s.dutyA, hcycle s.dutyB⟩
  · rw [litA_of_sameSetting hon t hsame, litB_of_sameSetting hon t hsame]
    simp only [decide_eq_false_iff_not, decide_eq_true_eq, ← BitVec.toNat_inj, BitVec.reduceToNat]
    omega

/-! ### Between two updates -/

theorem Phase.idle_or_aInd {p : Phase} (hrw : p.rewriting = false) (hstop : p ≠ .aStop) (hhalt : p ≠ .halt) :
    p = .idle ∨ p = .aInd := by
  cases p with
  | idle => exact .inl rfl
  | aInd => exact .inr rfl
  | aStop => exact absurd rfl hstop
  | halt => exact absurd rfl hhalt
  | aPeriod | aDutyA | aDutyB | aStart => cases hrw

/-- From the A_START step of an update to the A_STOP step of the next the run is steady. -/
theorem steadyRun_between {sched : Nat → Event} {s t : State} {i j : Nat} (h : Inv s)
    (hlast : FirstStepAfter sched s .aStop i j) (hreset : .reset ∉ eventsBetween sched i j)
    (ht : performAll (firstEvents sched (i + 1)) s = .next t) (hidle : t.phase.rewriting = false) :
    ∃ u, SteadyRun t (eventsBetween sched i j) u := by
  suffices hprefix : ∀ k, i + 1 ≤ k → k ≤ j →
      ∃ u, performAll (firstEvents sched k) s = .next u ∧ SteadyRun t (eventsBetween sched i k) u by
    obtain ⟨u, -, hu⟩ := hprefix j hlast.1 j.le_refl
    exact ⟨u, hu⟩
  intro k hk
  induction k, hk using Nat.le_induction with
  | base => exact fun _ => ⟨t, ht, eventsBetween_self sched i ▸ .nil⟩
  | succ k hk ih =>
    intro hkj
    obtain ⟨u, hu, hrun⟩ := ih (Nat.le_of_succ_le hkj)
    obtain ⟨hInv, -⟩ := h.of_performAll hu
    have hrw := rewriting_between (b := false) h hlast hreset ht hidle hk (Nat.le_of_succ_le hkj) hu
    have hphase : sched k = .seq → u.phase = .idle ∨ u.phase = .aInd := fun hseq =>
      Phase.idle_or_aInd hrw (hlast.phase_ne hk hkj hseq hu) hInv.running
    have he := ne_reset_of_between hreset hk hkj
    obtain ⟨v, hv, hsame⟩ := perform_sameSetting he hphase
    exact ⟨v, performAll_firstEvents_succ hu hv, eventsBetween_succ sched hk ▸ hrun.snoc he hv hsame⟩

/-- Settles O52: between the updates the run is steady, so the ticks of `cycles` cycles are lit for `cycles` shares, and
more ticks for no fewer. -/
theorem infrequentUpdatesShowWholeCycles : Obligations.InfrequentUpdatesShowWholeCycles := by
  intro s sched cycles i j h hrare hshowing hreset
  obtain ⟨hstart, hlast⟩ := id hshowing
  obtain ⟨hseq, v, hv, hphase⟩ := isStep_iff.mp hstart
  have hopen : perform (sched i) v = .next ((v.setOutEn true).setPhase .idle) := by
    rw [hseq, perform_eq, sequencerStep_eq, hphase]
  have hafter := performAll_firstEvents_succ hv hopen
  obtain ⟨hInv, hperiod⟩ := h.of_performAll hafter
  obtain ⟨u, hrun⟩ := steadyRun_between h hlast hreset hafter rfl
  have hticks := hrare i j hshowing
  rw [← hperiod, ← hInv.period] at hticks
  refine ⟨_, hafter, rfl, hInv.shown rfl rfl, ?_, ?_⟩
  · rw [hrun.litTicks hInv.count (litA_of_sameSetting rfl), ← State.litCount_cycles]
    exact State.litCount_mono _ _ hticks
  · rw [hrun.litTicks hInv.count (litB_of_sameSetting rfl), ← State.litCount_cycles]
    exact State.litCount_mono _ _ hticks

end Sys2Proof.Machine

/-! ## The steady-state waveform (O53)

Where only ticks have an effect, the state after a list of events is the one before with the ticks counted. A schedule
fair to TMR reaches every number of ticks, and so every count again. -/

namespace Sys2Proof.Machine

section

variable {s : State} {es : List Event}

/-- If every event counts when it is a tick and does nothing else, whatever CNT holds, so does the list. -/
theorem performAll_setCnt (h : ∀ e ∈ es, ∀ v, perform e (s.setCnt v) =
      .next (s.setCnt ((nextCount s.period)^[tickCount [e]] v))) (v : Word) :
    performAll es (s.setCnt v) = .next (s.setCnt ((nextCount s.period)^[tickCount es] v)) := by
  induction es generalizing v with
  | nil => rfl
  | cons e es ih =>
    obtain ⟨he, hes⟩ := List.forall_mem_cons.mp h
    have hticks : tickCount (e :: es) = tickCount es + tickCount [e] :=
      (tickCount_append [e] es).trans (Nat.add_comm _ _)
    rw [performAll_cons_next (he v), ih hes, hticks, Function.iterate_add_apply]

/-- Ticks alone, in every state (R72). -/
theorem performAll_ticks (s : State) (n : Nat) :
    performAll (List.replicate n .tick) s = .next (s.setCnt ((nextCount s.period)^[n] s.cnt)) := by
  have h := performAll_setCnt (s := s) (es := List.replicate n .tick)
    (fun e he v => by cases List.eq_of_mem_replicate he; rfl) s.cnt
  rwa [tickCount_replicate] at h

/-- In a quiescent state, until a byte arrives or the block is reset, the ticks alone have an effect (R146). -/
theorem performAll_of_quiescent (hs : s.quiescent = true) (hes : ∀ e ∈ es, e.quiet = true) :
    performAll es s = .next (s.setCnt ((nextCount s.period)^[tickCount es] s.cnt)) := by
  obtain ⟨hp, hr⟩ := s.quiescent_iff.mp hs
  refine performAll_setCnt (fun e he v => ?_) s.cnt
  have hquiet := hes e he
  cases e with
  | tick | txReady => rfl
  | seq => simp [perform_eq, sequencerStep_eq, hp, hr, tickCount]
  | line f =>
    have hwf : frameWf f = false := by simpa [Event.quiet, Event.byte?] using hquiet
    simp [perform_eq, hwf, tickCount]
  | reset => cases hquiet

end

/-! ### Fairness of the timer -/

section

variable {sched : Nat → Event}

theorem tickCount_firstEvents_succ (sched : Nat → Event) (n : Nat) :
    tickCount (firstEvents sched (n + 1)) = tickCount (firstEvents sched n) + tickCount [sched n] := by
  rw [firstEvents_succ, tickCount_append]

/-- From every point on there is one tick more. -/
theorem WeakFairTmr.exists_succ (h : WeakFairTmr sched) (n : Nat) :
    ∃ m, n ≤ m ∧ tickCount (firstEvents sched m) = tickCount (firstEvents sched n) + 1 := by
  obtain ⟨k, hk, htick⟩ := h n
  induction hd : k - n generalizing n with
  | zero =>
    obtain rfl : n = k := by omega
    exact ⟨n + 1, n.le_succ, by rw [tickCount_firstEvents_succ, htick]; rfl⟩
  | succ d ih =>
    by_cases hn : sched n = .tick
    · exact ⟨n + 1, n.le_succ, by rw [tickCount_firstEvents_succ, hn]; rfl⟩
    · obtain ⟨m, hm, hcount⟩ := ih (n + 1) (by omega) (by omega)
      exact ⟨m, Nat.le_of_succ_le hm, by rw [hcount, tickCount_firstEvents_succ]; simp [tickCount, hn]⟩

/-- Every number of ticks not yet passed is reached. -/
theorem WeakFairTmr.exists_tickCount_eq (h : WeakFairTmr sched) (N : Nat) {c : Nat}
    (hc : tickCount (firstEvents sched N) ≤ c) : ∃ n, N ≤ n ∧ tickCount (firstEvents sched n) = c := by
  induction c, hc using Nat.le_induction with
  | base => exact ⟨N, N.le_refl, rfl⟩
  | succ c _ ih =>
    obtain ⟨n, hn, hcount⟩ := ih
    obtain ⟨m, hm, hcount'⟩ := h.exists_succ n
    exact ⟨m, hn.trans hm, hcount ▸ hcount'⟩

end

theorem quiet_of_mem_firstEvents {sched : Nat → Event} (h : ∀ n, (sched n).quiet = true) (n : Nat) :
    ∀ e ∈ firstEvents sched n, e.quiet = true :=
  List.forall_mem_map.mpr fun k _ => h k

/-- Some number of ticks, as large as wanted, leads from one count to another. -/
theorem exists_add_mod_eq {a v P : Nat} (ha : a < P) (hv : v < P) (n : Nat) : ∃ c, n ≤ c ∧ (a + c) % P = v := by
  refine ⟨P - a + v + P * n, ?_, ?_⟩
  · have hn : n ≤ P * n := Nat.le_mul_of_pos_left n (Nat.zero_lt_of_lt ha)
    omega
  · rw [show a + (P - a + v + P * n) = v + P * (n + 1) by rw [Nat.mul_succ]; omega, Nat.add_mul_mod_self_left,
      Nat.mod_eq_of_lt hv]

/-- Settles O53: `performAll_ticks` for a cycle that begins at 0, `performAll_of_quiescent` along a fair schedule. -/
theorem steadyStateWaveform : Obligations.SteadyStateWaveform := by
  refine ⟨fun s n hperiod => ⟨_, performAll_ticks s n, fun hon hzero => ?_, fun hoff => ?_⟩, ?_⟩
  · have hcnt : ((nextCount s.period)^[n] s.cnt).toNat = n % s.period.toNat := by
      simpa [hzero] using toNat_nextCount_iterate (cnt := s.cnt) (by simpa [hzero] using hperiod) n
    have hlt := Nat.mod_lt n hperiod
    simp [State.pinA_eq, State.pinB_eq, hon, hcnt, hlt]
  · exact ⟨State.pinA_of_disabled hoff, State.pinB_of_disabled hoff⟩
  · intro s sched hquiescent hcount hquiet hfair v N hv
    obtain ⟨c, hc, hmod⟩ := exists_add_mod_eq hcount hv (tickCount (firstEvents sched N))
    obtain ⟨n, hn, hticks⟩ := hfair.exists_tickCount_eq N hc
    have hrun := performAll_of_quiescent hquiescent (quiet_of_mem_firstEvents hquiet n)
    have hcnt : (nextCount s.period)^[tickCount (firstEvents sched n)] s.cnt = v :=
      BitVec.eq_of_toNat_eq ((toNat_nextCount_iterate hcount _).trans (hticks ▸ hmod))
    rw [hcnt] at hrun
    exact ⟨n, _, hn, hrun, rfl, State.pinA_eq _, State.pinB_eq _⟩

end Sys2Proof.Machine

/-! ## No glitch (O54)

The enabled outputs show one byte's setting: the byte changes at A_START steps, where the invariant has the setting of
CUR_BYTE complete, and no event rewrites the timer while the outputs stay enabled. -/

namespace Sys2Proof.Machine

/-- If the outputs are enabled, the timer's duties are those of `d`, and in IDLE `d` is CUR_BYTE. -/
def ShowsIfEnabled (s : State) (d : Byte) : Prop :=
  s.outEn = true → DutyPair.mk s.dutyA s.dutyB = byteDuties s.pwmPeriod d ∧ (s.phase = .idle → d = s.curByte)

section

variable {s t : State} {d : Byte}

/-- The sequencer's step: it leaves the timer alone (IDLE, A_IND), disables the outputs or leaves them disabled (A_STOP
to A_DUTY_B), or enables them with the setting of CUR_BYTE (A_START). -/
theorem ShowsIfEnabled.sequencerStep (h : Inv s) (hd : ShowsIfEnabled s d) (ht : sequencerStep s = .next t) :
    ShowsIfEnabled t (if s.phase = .aStart then s.curByte else d) := by
  have hInv : Inv t := h.of_perform (e := .seq) ht
  rw [sequencerStep_eq] at ht
  cases hp : s.phase with
  | idle =>
    cases hr : s.rxPending with
    | false => simp only [hp, hr] at ht; cases ht; exact hd
    | true =>
      simp only [hp, hr, State.takeByte_eq, rangeViolation_byteDuties] at ht
      cases ht
      exact fun hon => ⟨(hd hon).1, nofun⟩
  | aInd => simp only [hp] at ht; cases ht; exact fun hon => ⟨(hd hon).1, nofun⟩
  | aStop => simp only [hp] at ht; cases ht; nofun
  | aPeriod | aDutyA | aDutyB =>
    have hoff : s.outEn = false := h.gated (by rw [hp]; rfl)
    simp only [hp] at ht
    cases ht
    exact fun hon => Bool.noConfusion (hoff.symm.trans hon)
  | aStart =>
    simp only [hp] at ht
    cases ht
    have hshown := hInv.shown rfl rfl
    exact fun _ => ⟨congrArg₂ DutyPair.mk hshown.dutyA hshown.dutyB, fun _ => rfl⟩
  | halt => exact absurd hp h.running

/-- Every event keeps it, for the byte `shownByte` goes on with. -/
theorem ShowsIfEnabled.perform {e : Event} (h : Inv s) (hd : ShowsIfEnabled s d)
    (ht : Machine.perform e s = .next t) :
    ShowsIfEnabled t (if e = .seq ∧ s.phase = .aStart then s.curByte else d) := by
  cases e with
  | tick | txReady => cases ht; exact hd
  | line f => obtain ⟨-, hf⟩ | ⟨-, hf⟩ := receiveLine_cases f s <;> · cases hf.symm.trans ht; exact hd
  | reset => cases ht; nofun
  | seq => simpa using hd.sequencerStep h ht

theorem ShowsIfEnabled.performAll {es : List Event} (h : Inv s) (hd : ShowsIfEnabled s d)
    (ht : Machine.performAll es s = .next t) : ShowsIfEnabled t (shownByte es s d) := by
  induction es generalizing s d with
  | nil => cases ht; exact hd
  | cons e es ih =>
    obtain ⟨u, hu, hInv⟩ := h.perform e
    rw [performAll_cons_next hu] at ht
    simpa only [shownByte, hu] using ih hInv (hd.perform h hu) ht

end

/-- Settles O54: the invariant gives the gate and the period, `ShowsIfEnabled` the byte, and the pins are the
comparators' outputs. -/
theorem pinsShowIdleOrOneSetting : Obligations.PinsShowIdleOrOneSetting := by
  intro s t es d h hd ht
  obtain ⟨hInv, -⟩ := h.of_performAll ht
  refine ⟨fun hrw => ⟨hInv.gated hrw, State.unlit_of_disabled (hInv.gated hrw)⟩,
    fun hoff => ⟨State.pinA_of_disabled hoff, State.pinB_of_disabled hoff⟩, fun hon => ?_⟩
  obtain ⟨hpair, hbyte⟩ := ShowsIfEnabled.performAll h hd ht hon
  refine ⟨hInv.period, hpair, hbyte, ?_, ?_⟩
  · rw [State.pinA_eq, hon, ← hpair, Bool.true_and]
  · rw [State.pinB_eq, hon, ← hpair, Bool.true_and]

end Sys2Proof.Machine

/-! ## The sequencer's step (O10, O13, O14, O32, O33, O41, O49, O55)

A sequencer step reads neither CNT nor, outside IDLE, the mailbox; ticks, the line and `tx_ready` write nothing else. -/

namespace Sys2Proof.Machine

/-! ### The events around the sequencer -/

/-- The mailbox's two registers (R11, R12). -/
def State.setMailbox (s : State) (latch : Byte) (pending : Bool) : State :=
  { s with rxLatch := latch, rxPending := pending }

@[simp] theorem State.setMailbox_phase (s : State) (latch : Byte) (pending : Bool) :
    (s.setMailbox latch pending).phase = s.phase := rfl

section

variable {s t : State} {e : Event}

/-- A tick, a line event and `tx_ready` write the mailbox and CNT alone (R97, R100, R106). -/
theorem perform_of_ne_seq_of_ne_reset (hseq : e ≠ .seq) (hreset : e ≠ .reset) (s : State) :
    ∃ latch pending cnt, perform e s = .next ((s.setMailbox latch pending).setCnt cnt) := by
  cases e with
  | tick => exact ⟨s.rxLatch, s.rxPending, _, rfl⟩
  | line f =>
    obtain ⟨-, hf⟩ | ⟨-, hf⟩ := receiveLine_cases f s
    · exact ⟨f.extractLsb' 1 8, true, s.cnt, hf⟩
    · exact ⟨s.rxLatch, s.rxPending, s.cnt, hf⟩
  | txReady => exact ⟨s.rxLatch, s.rxPending, s.cnt, rfl⟩
  | seq => exact absurd rfl hseq
  | reset => exact absurd rfl hreset

theorem perform_seq (s : State) : perform .seq s = sequencerStep s := rfl

/-- The sequencer neither reads nor writes CNT (R97). -/
theorem perform_seq_setCnt (s : State) (v : Word) :
    perform .seq (s.setCnt v) = mapNext (·.setCnt v) (perform .seq s) := by
  rw [perform_seq, perform_seq, sequencerStep_eq, sequencerStep_eq, State.setCnt_phase]
  cases s.phase with
  | idle =>
    cases hr : s.rxPending with
    | false => simp [hr]
    | true =>
      simp only [State.setCnt_rxPending, State.setCnt_rxLatch, State.setCnt_pwmPeriod, hr, State.takeByte_eq]
      rfl
  | aInd | aStop | aPeriod | aDutyA | aDutyB | aStart | halt => rfl

/-- Outside IDLE the sequencer neither reads nor writes the mailbox (R90, R120). -/
theorem perform_seq_setMailbox (h : s.phase ≠ .idle) (latch : Byte) (pending : Bool) :
    perform .seq (s.setMailbox latch pending) = mapNext (·.setMailbox latch pending) (perform .seq s) := by
  rw [perform_seq, perform_seq, sequencerStep_eq, sequencerStep_eq, State.setMailbox_phase]
  cases hp : s.phase with
  | idle => exact absurd hp h
  | aInd | aStop | aPeriod | aDutyA | aDutyB | aStart | halt => rfl

/-! ### The rows of the table -/

/-- The sequencer's step is what it fetches, performed (R90). -/
theorem perform_seq_of_sequencerInstr {i : Instr} (h : sequencerInstr s = some i) : perform .seq s = exec i s := by
  simp only [perform_seq, sequencerStep, h]

/-- The state after the take of the mailbox's byte (R88). -/
def State.taken (s : State) : State :=
  (s.beginUpdate s.rxLatch (byteDuties s.pwmPeriod s.rxLatch).cool
    (byteDuties s.pwmPeriod s.rxLatch).warm).setPhase .aInd

/-- The take goes to A_IND, since its range check passes (R88, R117). -/
theorem perform_seq_of_pending (hp : s.phase = .idle) (hr : s.rxPending = true) :
    perform .seq s = .next s.taken := by
  simp [perform_seq, sequencerStep_eq, hp, hr, State.takeByte_eq, rangeViolation_byteDuties, State.taken]

/-- In IDLE with nothing pending a sequencer step does nothing (R99; log 6). -/
theorem perform_seq_of_not_pending (hp : s.phase = .idle) (hr : s.rxPending = false) :
    perform .seq s = .next s := by
  simp [perform_seq, sequencerStep_eq, hp, hr]

/-- The column "enabled when" of R90. -/
theorem State.seqEnabled_iff (s : State) :
    s.seqEnabled = true ↔ s.phase ≠ .halt ∧ (s.phase = .idle → s.rxPending = true) := by
  simp [State.seqEnabled, State.halted, imp_iff_not_or]

/-- An enabled sequencer fetches an instruction (R17). -/
theorem exists_sequencerInstr (h : s.seqEnabled = true) : ∃ i, sequencerInstr s = some i := by
  obtain ⟨hrunning, hpending⟩ := s.seqEnabled_iff.mp h
  unfold sequencerInstr
  cases hp : s.phase with
  | idle => exact ⟨_, if_pos (hpending hp)⟩
  | aInd | aStop | aPeriod | aDutyA | aDutyB | aStart => exact ⟨_, rfl⟩
  | halt => exact absurd hp hrunning

/-- Applying, idle and halted are the three kinds of phases (R17). -/
theorem Phase.updating_iff (p : Phase) : p.updating = true ↔ p ≠ .idle ∧ p ≠ .halt := by
  cases p <;> decide

/-- The column "then PHASE <-" of R90: it is the take, or a step of the update in progress. -/
theorem perform_seq_of_enabled (h : s.seqEnabled = true) :
    ∃ t, perform .seq s = .next t ∧ t.phase = s.phase.next := by
  obtain ⟨hrunning, hpending⟩ := s.seqEnabled_iff.mp h
  by_cases hp : s.phase = .idle
  · exact ⟨s.taken, perform_seq_of_pending hp (hpending hp), by rw [hp]; rfl⟩
  · obtain ⟨t, ht, hphase, -⟩ := perform_seq_of_updating (s.phase.updating_iff.mpr ⟨hp, hrunning⟩)
    exact ⟨t, ht, hphase⟩

end

/-- R86 in naturals: the indicator is on when the byte's low four bits are not 0. -/
theorem indicatorOn_levelField (w : Byte) : indicatorOn (levelField w) = decide (w.toNat % 16 ≠ 0) := by
  rw [Bool.eq_iff_iff, indicatorOn, ← toNat_levelField]
  simp [← BitVec.toNat_inj]

/-! ### The obligations -/

/-- Settles O10: the step is the take of `perform_seq_of_pending`, and its duties are R50's of the byte's two fields. -/
theorem takeStepStoresTheDutyPair : Obligations.TakeStepStoresTheDutyPair := by
  intro s hp hr
  have hfetch : sequencerInstr s = some (.light (codeField s.rxLatch) (levelField s.rxLatch)) := by
    rw [sequencerInstr, hp]
    exact if_pos hr
  have htake := perform_seq_of_pending hp hr
  refine ⟨s.taken, (perform_seq_of_sequencerInstr hfetch).symm.trans htake, htake, rfl, ?_, rfl⟩
  have hwarm := toNat_lightDuties_warm s.pwmPeriod (codeField s.rxLatch) (levelField s.rxLatch)
  have hcool := toNat_lightDuties_cool s.pwmPeriod (codeField s.rxLatch) (levelField s.rxLatch)
  rw [coolDuty, ← hwarm, toNat_levelField] at hcool
  rw [warmDuty, toNat_codeField, toNat_levelField] at hwarm
  exact ⟨hwarm, hcool⟩

/-- Settles O32: the table's two columns, and the events that write the mailbox and CNT alone. -/
theorem sequencerFollowsItsTable : Obligations.SequencerFollowsItsTable := by
  refine ⟨fun s => ⟨s.seqEnabled_iff, fun h => ?_⟩, fun e s t hseq hreset ht => ?_⟩
  · obtain ⟨i, hi⟩ := exists_sequencerInstr h
    obtain ⟨t, ht, hphase⟩ := perform_seq_of_enabled h
    exact ⟨i, t, hi, (perform_seq_of_sequencerInstr hi).symm.trans ht, ht, hphase⟩
  · obtain ⟨latch, pending, cnt, he⟩ := perform_of_ne_seq_of_ne_reset hseq hreset s
    cases he.symm.trans ht
    rfl

/-- Settles O33: the two rows in which the sequencer fetches nothing. -/
theorem sequencerWithoutAStep : Obligations.SequencerWithoutAStep := by
  refine fun s => ⟨perform_seq_of_not_pending, fun hp => ?_⟩
  rw [perform_seq, sequencerStep_eq, hp]

/-- Settles O13: IND is written before the phase is looked at, and the sequencer moves on in A_IND alone. -/
theorem indSetDrivesTheIndicator : Obligations.IndSetDrivesTheIndicator := by
  intro on s
  refine ⟨fun h => congrArg _ (State.advanceFrom_of_ne (s := s.setInd on) h),
    fun h => congrArg _ (State.advanceFrom_of_eq (s := s.setInd on) h), rfl, ?_⟩
  rintro rfl
  rfl

/-- Settles O14: the A_IND row, with R86's value in naturals. -/
theorem indicatorStepShowsTheCommand : Obligations.IndicatorStepShowsTheCommand := by
  intro s hp
  rw [perform_seq, sequencerStep_eq, hp, ← indicatorOn_levelField]
  rfl

/-- Settles O41: the ticks are counted, and nothing else happens. -/
theorem quiescentStateOnlyCounts : Obligations.QuiescentStateOnlyCounts :=
  fun _ _ hs hes => ⟨_, performAll_of_quiescent hs hes, rfl⟩

/-- Settles O49: either way CNT counts once and the sequencer steps once; the sequencer does not write CNT, and under
the invariant it leaves the value of PERIOD, which the tick reads. -/
theorem tickCommutesWithTheSequencer : Obligations.TickCommutesWithTheSequencer := by
  intro s h
  obtain ⟨t, ht, hInv⟩ := h.perform .seq
  obtain ⟨hpwm, -, -, hcnt, -⟩ := sequencerStep_frame ht
  have htick : tick t = t.setCnt (nextCount s.period s.cnt) := by
    rw [tick_eq, hcnt, h.period_eq hInv hpwm]
  have hseq : perform .seq (tick s) = .next (tick t) := by
    rw [tick_eq s, perform_seq_setCnt, ht, mapNext_next, htick]
  calc performAll [.tick, .seq] s
      = performAll [.seq] (tick s) := performAll_cons_next rfl
    _ = performAll [] (tick t) := performAll_cons_next hseq
    _ = performAll [.tick] t := rfl
    _ = performAll [.seq, .tick] s := (performAll_cons_next ht).symm

/-- Settles O55: the three rows that write a register of the triple stand behind the gate, which they do not open; the
other rows, and the other agents, write none. -/
theorem timerRewrittenOnlyBehindTheGate : Obligations.TimerRewrittenOnlyBehindTheGate := by
  intro e s t h hreset ht hchange
  by_cases hsteady : e = .seq → s.phase = .idle ∨ s.phase = .aInd
  · obtain ⟨u, hu, hsame⟩ := perform_sameSetting hreset hsteady
    cases hu.symm.trans ht
    simp [hsame.dutyA, hsame.dutyB, hsame.period] at hchange
  · obtain ⟨rfl, hphase⟩ := Classical.not_imp.mp hsteady
    rw [perform_seq, sequencerStep_eq] at ht
    cases hp : s.phase with
    | idle | aInd => simp [hp] at hphase
    | aStop | aStart => simp only [hp] at ht; cases ht; simp at hchange
    | aPeriod | aDutyA | aDutyB =>
      have hgate : s.outEn = false := h.gated (by rw [hp]; rfl)
      simp only [hp] at ht
      cases ht
      exact ⟨hgate, hgate⟩
    | halt => exact absurd hp h.running

end Sys2Proof.Machine

/-! ## An update among other events (O37)

The other agents' events change only the mailbox and CNT, which the steps of an update do not read. So the update goes
on among them as its sequencer steps do alone. -/

namespace Sys2Proof.Machine

theorem Phase.updating_of_stepsToIdle_pos {p : Phase} : 0 < p.stepsToIdle → p.updating = true := by
  cases p <;> decide

theorem Phase.stepsToIdle_next {p : Phase} : p.updating = true → p.next.stepsToIdle + 1 = p.stepsToIdle := by
  cases p <;> decide

/-- A step of the update in progress does the same whatever the mailbox and CNT hold. -/
theorem perform_seq_setMailbox_setCnt {s t : State} (h : s.phase.updating = true) (ht : perform .seq s = .next t)
    (latch : Byte) (pending : Bool) (cnt : Word) :
    perform .seq ((s.setMailbox latch pending).setCnt cnt) = .next ((t.setMailbox latch pending).setCnt cnt) := by
  obtain ⟨hidle, -⟩ := s.phase.updating_iff.mp h
  rw [perform_seq_setCnt, perform_seq_setMailbox hidle, ht, mapNext_next, mapNext_next]

/-- Up to the end of the update in progress, a list of events without a reset ends where its sequencer steps alone end,
but for the mailbox and CNT. -/
theorem performAll_of_seqs {es : List Event} {s t : State} (hreset : .reset ∉ es)
    (hn : seqCount es ≤ s.phase.stepsToIdle) (ht : performAll (List.replicate (seqCount es) .seq) s = .next t)
    (latch : Byte) (pending : Bool) (cnt : Word) :
    ∃ latch' pending' cnt', performAll es ((s.setMailbox latch pending).setCnt cnt) =
      .next ((t.setMailbox latch' pending').setCnt cnt') := by
  induction es generalizing s latch pending cnt with
  | nil => cases ht; exact ⟨latch, pending, cnt, rfl⟩
  | cons e es ih =>
    obtain ⟨he, hes⟩ : e ≠ .reset ∧ .reset ∉ es := by simpa [eq_comm] using hreset
    by_cases hseq : e = .seq
    · subst hseq
      have hcount : seqCount (.seq :: es) = seqCount es + 1 := List.count_cons_self
      rw [hcount] at hn ht
      have hup : s.phase.updating = true := Phase.updating_of_stepsToIdle_pos (Nat.zero_lt_of_lt hn)
      have hleft := Phase.stepsToIdle_next hup
      obtain ⟨u, hu, hphase, -⟩ := perform_seq_of_updating hup
      rw [List.replicate_succ, performAll_cons_next hu] at ht
      rw [performAll_cons_next (perform_seq_setMailbox_setCnt hup hu latch pending cnt)]
      exact ih hes (by rw [hphase]; omega) ht latch pending cnt
    · have hcount : seqCount (e :: es) = seqCount es := List.count_cons_of_ne hseq
      rw [hcount] at hn ht
      obtain ⟨latch', pending', cnt', he'⟩ := perform_of_ne_seq_of_ne_reset hseq he
        ((s.setMailbox latch pending).setCnt cnt)
      rw [performAll_cons_next he']
      exact ih hes hn ht latch' pending' cnt'

section

variable (s : State)

/-- Six steps after the take the update is complete (R92). -/
theorem performAll_six_of_taken : performAll (List.replicate 6 .seq) s.taken = .next s.updated := rfl

/-- Fewer steps after the take leave the update of the byte in progress (R92). -/
theorem performAll_seqs_of_taken {n : Nat} (hn : n < 6) :
    ∃ t, performAll (List.replicate n .seq) s.taken = .next t ∧ t.phase.updating = true ∧
      t.curByte = s.rxLatch := by
  interval_cases n <;> exact ⟨_, rfl, rfl, rfl⟩

end

/-- Settles O37: the take, then `performAll_of_seqs` for the steps that follow it. -/
theorem updateTakesSevenSteps : Obligations.UpdateTakesSevenSteps := by
  intro s es hp hr hreset
  rw [performAll_cons_next (perform_seq_of_pending hp hr)]
  refine ⟨fun hn => ?_, fun hn => ?_⟩
  · obtain ⟨latch, pending, cnt, hrun⟩ := performAll_of_seqs hreset (s := s.taken) (by rw [hn]; rfl)
      (hn ▸ performAll_six_of_taken s) s.rxLatch false s.cnt
    obtain ⟨hind, hA, hB, hperiod, hon, hbyte⟩ := s.updated_shows
    exact ⟨_, hrun, rfl, hind, hA, hB, hperiod, hon, hbyte⟩
  · obtain ⟨t, ht, hup, hbyte⟩ := performAll_seqs_of_taken s hn
    obtain ⟨latch, pending, cnt, hrun⟩ := performAll_of_seqs hreset (s := s.taken) (Nat.le_of_lt hn)
      ht s.rxLatch false s.cnt
    exact ⟨_, hrun, hup, hbyte⟩

end Sys2Proof.Machine

/-! ## The serial receiver (O12, O39, O43, O44)

The mailbox is one slot: a received byte overwrites it, a take empties it (R100, R101, R108). While no byte arrives, a
pending byte is on its way to the outputs: the update in progress ends, then its own begins and ends, which takes a
number of sequencer steps that the state determines (R102). -/

namespace Sys2Proof.Machine

/-- Settles O12: both forms are the mailbox write, and no pin reads the mailbox. -/
theorem receiveStepLatchesTheByte : Obligations.ReceiveStepLatchesTheByte :=
  fun d s => ⟨exec_eq (.rxframe d) s, perform_rx d s, rfl⟩

/-! ### The mailbox between takes -/

section

variable {s t : State} {e : Event}

theorem receivedBytes_cons (e : Event) (es : List Event) :
    receivedBytes (e :: es) = e.byte?.toList ++ receivedBytes es := by
  cases h : e.byte? <;> simp [receivedBytes, h]

/-- Of the events without a take and a reset, those that deliver a byte write it to the mailbox (R97, R100). -/
theorem mailbox_of_perform (hseq : e ≠ .seq) (hreset : e ≠ .reset) (s : State) :
    ∃ t, perform e s = .next t ∧ t.rxLatch = e.byte?.getD s.rxLatch ∧
      t.rxPending = (s.rxPending || e.byte?.isSome) := by
  cases e with
  | tick | txReady => exact ⟨_, rfl, rfl, (Bool.or_false _).symm⟩
  | line f =>
    obtain ⟨hwf, hf⟩ | ⟨hwf, hf⟩ := receiveLine_cases f s
    · exact ⟨_, hf, by simp [Event.byte?, hwf]⟩
    · exact ⟨s, hf, by simp [Event.byte?, hwf]⟩
  | seq => exact absurd rfl hseq
  | reset => exact absurd rfl hreset

end

/-- Settles O43, by induction on the events: the byte the head delivers is the last one unless the tail delivers one. -/
theorem lastByteReceivedIsInTheMailbox : Obligations.LastByteReceivedIsInTheMailbox := by
  intro es
  induction es with
  | nil => exact fun s _ _ => ⟨s, rfl, rfl, (Bool.or_false _).symm⟩
  | cons e es ih =>
    intro s hseq hreset
    obtain ⟨heseq, hseq⟩ := List.ne_and_not_mem_of_not_mem_cons hseq
    obtain ⟨hereset, hreset⟩ := List.ne_and_not_mem_of_not_mem_cons hreset
    obtain ⟨u, hu, hlatch, hpending⟩ := mailbox_of_perform heseq.symm hereset.symm s
    obtain ⟨t, ht, hlatch', hpending'⟩ := ih u hseq hreset
    refine ⟨t, (performAll_cons_next hu).trans ht, ?_⟩
    rw [hlatch', hlatch, hpending', hpending, receivedBytes_cons]
    cases e.byte? with
    | none => simp
    | some d => simp [List.getLast?_cons]

/-! ### The bytes taken -/

/-- The byte waiting in the mailbox, if any. -/
def State.waitingBytes (s : State) : List Byte := if s.rxPending then [s.rxLatch] else []

section

variable {s t : State} {e : Event}

/-- The sequencer leaves at most the byte that was waiting. -/
theorem waitingBytes_of_perform_seq (ht : perform .seq s = .next t) : t.waitingBytes.Sublist s.waitingBytes := by
  obtain ⟨-, -, -, -, hlatch, -, -, hpending⟩ := sequencerStep_frame ht
  unfold State.waitingBytes
  cases hr : t.rxPending with
  | false => exact List.nil_sublist _
  | true => rw [hpending hr, hlatch]

/-- A byte an event takes was waiting and no longer is; a byte that waits after it waited before or was delivered. -/
theorem taken_append_waiting_sublist (ht : perform e s = .next t) :
    ((if e = .seq ∧ s.takeEnabled = true then [s.rxLatch] else []) ++ t.waitingBytes).Sublist
      (s.waitingBytes ++ e.byte?.toList) := by
  cases e with
  | tick | txReady => cases ht; exact List.sublist_append_left _ _
  | reset => cases ht; exact List.nil_sublist _
  | line f =>
    obtain ⟨hwf, hf⟩ | ⟨-, hf⟩ := receiveLine_cases f s
    · cases hf.symm.trans ht
      simp [State.waitingBytes, Event.byte?, hwf]
    · cases hf.symm.trans ht
      exact List.sublist_append_left _ _
  | seq =>
    by_cases he : s.takeEnabled = true
    · obtain ⟨hp, hr⟩ := s.takeEnabled_iff.mp he
      cases (perform_seq_of_pending hp hr).symm.trans ht
      simp [State.waitingBytes, State.taken, he, hr]
    · simpa [he, Event.byte?] using waitingBytes_of_perform_seq ht

end

/-- Settles O44, by induction on the events: `taken_append_waiting_sublist` for the head. -/
theorem takenBytesAreReceivedInOrder : Obligations.TakenBytesAreReceivedInOrder := by
  intro es
  induction es with
  | nil => exact fun s => List.nil_sublist _
  | cons e es ih =>
    intro s
    cases he : perform e s with
    | next t =>
      simp only [takenBytes, he, receivedBytes_cons]
      have htail := (ih t).append_left (if e = .seq ∧ s.takeEnabled = true then [s.rxLatch] else [])
      have hhead := (taken_append_waiting_sublist he).append_right (receivedBytes es)
      rw [List.append_assoc, List.append_assoc] at hhead
      exact htail.trans hhead
    | fault r | refused r => simp [takenBytes, he]

/-! ### On the way to a byte's outputs -/

/-- The sequencer steps left until the block is quiescent, while no byte arrives: those of the update in progress and,
with a byte pending, the seven of its own (R92, R146). -/
def State.stepsLeft (s : State) : Nat := s.phase.stepsToIdle + if s.rxPending then 7 else 0

/-- The next state the block rests in shows `d`: `d` is pending, or its update is in progress, or complete. -/
structure HeadsFor (s : State) (d : Byte) : Prop where
  inv : Inv s
  waiting : s.rxPending = true → s.rxLatch = d
  taken : s.rxPending = false → s.curByte = d ∧ (s.phase = .idle → s.outEn = true)

section

variable {s t : State} {e : Event} {d : Byte}

/-- With steps left the sequencer is enabled. -/
theorem State.seqEnabled_of_stepsLeft_pos (h : s.phase ≠ .halt) (hpos : 0 < s.stepsLeft) : s.seqEnabled = true := by
  refine s.seqEnabled_iff.mpr ⟨h, fun hp => ?_⟩
  by_contra hr
  simp [State.stepsLeft, hp, hr, Phase.stepsToIdle] at hpos

theorem Phase.eq_idle_of_stepsToIdle_eq_zero {p : Phase} : p ≠ .halt → p.stepsToIdle = 0 → p = .idle := by
  cases p <;> decide

/-- With no steps left the block is quiescent. -/
theorem State.quiescent_of_stepsLeft_eq_zero (h : s.phase ≠ .halt) (hzero : s.stepsLeft = 0) : s.quiescent = true := by
  obtain ⟨hphase, hpending⟩ := Nat.add_eq_zero_iff.mp hzero
  exact s.quiescent_iff.mpr ⟨Phase.eq_idle_of_stepsToIdle_eq_zero h hphase, by simpa using hpending⟩

theorem HeadsFor.shows (h : HeadsFor s d) (hs : s.quiescent = true) : Shows s d := by
  obtain ⟨hp, hr⟩ := s.quiescent_iff.mp hs
  obtain ⟨rfl, hon⟩ := h.taken hr
  exact h.inv.shown hp (hon hp)

/-- A step of the update in progress keeps its byte, and the one that ends it enables the outputs (R90, R70). -/
theorem curByte_outEn_of_updating (h : s.phase.updating = true) (ht : perform .seq s = .next t) :
    t.curByte = s.curByte ∧ (t.phase = .idle → t.outEn = true) := by
  rw [perform_seq, sequencerStep_eq] at ht
  cases hp : s.phase with
  | idle | halt => simp [hp, Phase.updating] at h
  | aInd | aStop | aPeriod | aDutyA | aDutyB => simp only [hp] at ht; cases ht; exact ⟨rfl, nofun⟩
  | aStart => simp only [hp] at ht; cases ht; exact ⟨rfl, fun _ => rfl⟩

/-- A sequencer step brings the byte one step nearer to the outputs, unless it is there. -/
theorem HeadsFor.perform_seq (h : HeadsFor s d) (ht : perform .seq s = .next t) :
    HeadsFor t d ∧ t.stepsLeft = s.stepsLeft - 1 := by
  have hInv : Inv t := h.inv.of_perform ht
  by_cases hp : s.phase = .idle
  · cases hr : s.rxPending with
    | false =>
      cases (perform_seq_of_not_pending hp hr).symm.trans ht
      exact ⟨h, by simp [State.stepsLeft, hp, hr, Phase.stepsToIdle]⟩
    | true =>
      cases (perform_seq_of_pending hp hr).symm.trans ht
      exact ⟨⟨hInv, nofun, fun _ => ⟨h.waiting hr, nofun⟩⟩,
        by simp [State.stepsLeft, State.taken, hp, hr, Phase.stepsToIdle]⟩
  · have hup : s.phase.updating = true := s.phase.updating_iff.mpr ⟨hp, h.inv.running⟩
    obtain ⟨u, hu, hphase, hlatch, hpending⟩ := perform_seq_of_updating hup
    cases hu.symm.trans ht
    obtain ⟨hbyte, hon⟩ := curByte_outEn_of_updating hup ht
    have hleft := Phase.stepsToIdle_next hup
    refine ⟨⟨hInv, fun hr => hlatch.trans (h.waiting (hpending ▸ hr)), fun hr => ?_⟩, ?_⟩
    · obtain ⟨hcur, -⟩ := h.taken (hpending ▸ hr)
      exact ⟨hbyte.trans hcur, hon⟩
    · simp only [State.stepsLeft, hphase, hpending]
      omega

/-- A quiet event that is no sequencer step writes CNT alone (R45, R72, R106). -/
theorem perform_of_quiet (he : e.quiet = true) (hseq : e ≠ .seq) (s : State) :
    ∃ cnt, perform e s = .next (s.setCnt cnt) := by
  cases e with
  | tick => exact ⟨_, rfl⟩
  | txReady => exact ⟨s.cnt, rfl⟩
  | line f =>
    obtain ⟨hwf, -⟩ | ⟨-, hf⟩ := receiveLine_cases f s
    · simp [Event.quiet, Event.byte?, hwf] at he
    · exact ⟨s.cnt, hf⟩
  | seq => exact absurd rfl hseq
  | reset => cases he

/-- Every quiet event keeps the block on its way, and the sequencer's steps bring it on. -/
theorem HeadsFor.perform (h : HeadsFor s d) (he : e.quiet = true) :
    ∃ t, perform e s = .next t ∧ HeadsFor t d ∧ t.stepsLeft = s.stepsLeft - seqCount [e] := by
  obtain ⟨t, ht, hInv⟩ := h.inv.perform e
  refine ⟨t, ht, ?_⟩
  by_cases hseq : e = .seq
  · subst hseq
    exact h.perform_seq ht
  · obtain ⟨cnt, hcnt⟩ := perform_of_quiet he hseq s
    cases hcnt.symm.trans ht
    have hcount : seqCount [e] = 0 := List.count_singleton.trans (if_neg (by simpa using hseq))
    exact ⟨⟨hInv, h.waiting, h.taken⟩, by rw [hcount]; rfl⟩

theorem HeadsFor.performAll {es : List Event} (h : HeadsFor s d) (hes : ∀ e ∈ es, e.quiet = true) :
    ∃ t, performAll es s = .next t ∧ HeadsFor t d ∧ t.stepsLeft = s.stepsLeft - seqCount es := by
  induction es generalizing s with
  | nil => exact ⟨s, rfl, h, rfl⟩
  | cons e es ih =>
    obtain ⟨he, hes⟩ := List.forall_mem_cons.mp hes
    obtain ⟨u, hu, hhead, hleft⟩ := h.perform he
    obtain ⟨t, ht, htail, hleft'⟩ := ih hhead hes
    have hcount : seqCount (e :: es) = seqCount [e] + seqCount es := List.count_append (l₁ := [e])
    exact ⟨t, (performAll_cons_next hu).trans ht, htail, by rw [hleft', hleft, hcount, Nat.sub_sub]⟩

end

/-! ### Fairness of the sequencer -/

section

variable {sched : Nat → Event} {s : State} {d : Byte}

theorem seqCount_firstEvents_mono (sched : Nat → Event) {m n : Nat} (h : m ≤ n) :
    seqCount (firstEvents sched m) ≤ seqCount (firstEvents sched n) :=
  ((List.range_sublist.mpr h).map sched).count_le _

/-- A sequencer that always steps again takes any number of steps. -/
theorem exists_seqCount_ge (h : ∀ n, ∃ m, n ≤ m ∧ sched m = .seq) (c : Nat) :
    ∃ n, c ≤ seqCount (firstEvents sched n) := by
  induction c with
  | zero => exact ⟨0, Nat.zero_le _⟩
  | succ c ih =>
    obtain ⟨n, hn⟩ := ih
    obtain ⟨m, hm, hseq⟩ := h n
    have hcount : seqCount (firstEvents sched (m + 1)) = seqCount (firstEvents sched m) + 1 := by
      rw [firstEvents_succ, hseq]
      exact List.count_append
    exact ⟨m + 1, hcount ▸ Nat.succ_le_succ (hn.trans (seqCount_firstEvents_mono sched hm))⟩

/-- Under fairness the sequencer takes the steps it has left: while it has not, it is enabled, so it steps again. -/
theorem HeadsFor.exists_seqCount_ge_stepsLeft (h : HeadsFor s d) (hquiet : ∀ n, (sched n).quiet = true)
    (hfair : WeakFair sched s) : ∃ N, s.stepsLeft ≤ seqCount (firstEvents sched N) := by
  by_contra hnone
  have henabled : ∀ m, ∃ t, Machine.performAll (firstEvents sched m) s = .next t ∧ t.seqEnabled = true := by
    intro m
    obtain ⟨t, ht, hhead, hleft⟩ := h.performAll (quiet_of_mem_firstEvents hquiet m)
    have hlt : seqCount (firstEvents sched m) < s.stepsLeft := Nat.lt_of_not_le fun hle => hnone ⟨m, hle⟩
    exact ⟨t, ht, State.seqEnabled_of_stepsLeft_pos hhead.inv.running (by omega)⟩
  exact hnone (exists_seqCount_ge (fun n => hfair n fun m _ => henabled m) s.stepsLeft)

end

/-- Settles O39: a pending byte is headed for; once the steps left at the start are done the block is quiescent, and
shows the byte. -/
theorem newestByteWins : Obligations.NewestByteWins := by
  intro s sched hInv hpending hquiet hfair
  have h : HeadsFor s s.rxLatch := ⟨hInv, fun _ => rfl, fun hr => Bool.noConfusion (hpending.symm.trans hr)⟩
  obtain ⟨N, hN⟩ := h.exists_seqCount_ge_stepsLeft hquiet hfair
  refine ⟨N, fun n hn => ?_⟩
  obtain ⟨t, ht, hhead, hleft⟩ := h.performAll (quiet_of_mem_firstEvents hquiet n)
  have hdone : s.stepsLeft ≤ seqCount (firstEvents sched n) := hN.trans (seqCount_firstEvents_mono sched hn)
  have hrest : t.quiescent = true :=
    State.quiescent_of_stepsLeft_eq_zero hhead.inv.running (hleft.trans (Nat.sub_eq_zero_of_le hdone))
  exact ⟨t, ht, hrest, hhead.shows hrest⟩

end Sys2Proof.Machine

/-! ## The exception and the interleavings of a receive step (O34, O35, O36, O46)

RangeViolation is the take's branch to HALT, which no duty pair of a byte takes (R115, R117). A halted sequencer has no
step, and the other agents leave PHASE and the registers behind the outputs alone (R116). The mailbox is the only thing
a receive step shares with the sequencer, and only the take reads it (R120). -/

namespace Sys2Proof.Machine

/-! ### RangeViolation -/

/-- R115's condition in naturals. -/
theorem rangeViolation_iff {p : PwmPeriod} {cool warm : Word} :
    rangeViolation p cool warm = true ↔ cool.toNat > p.ticks.toNat + 1 ∨ warm.toNat > p.ticks.toNat + 1 := by
  simp [rangeViolation]

/-- Settles O34: the take's writes, then the phase that R115's condition selects. -/
theorem rangeViolationEntersHalt : Obligations.RangeViolationEntersHalt := by
  intro s byte d
  rw [State.takeByte_eq]
  exact congrArg (s.beginUpdate byte d.cool d.warm).setPhase (if_congr rangeViolation_iff rfl rfl)

/-- Settles O35: LIGHT's pair passes the range check, and a reachable state meets the invariant, which excludes HALT. -/
theorem rangeViolationCannotOccur : Obligations.RangeViolationCannotOccur := by
  refine ⟨fun p c b => ?_, fun s hs => (Inv.of_reachable hs).running⟩
  rw [← rangeViolation_iff, rangeViolation_lightDuties]
  exact Bool.false_ne_true

/-! ### HALT -/

/-- Ticks, line events and `tx_ready` in a row write the mailbox and CNT alone (R97, R100, R106). -/
theorem performAll_of_no_seq_no_reset {es : List Event} (hseq : .seq ∉ es) (hreset : .reset ∉ es) (s : State) :
    ∃ latch pending cnt, performAll es s = .next ((s.setMailbox latch pending).setCnt cnt) := by
  induction es generalizing s with
  | nil => exact ⟨s.rxLatch, s.rxPending, s.cnt, rfl⟩
  | cons e es ih =>
    obtain ⟨heseq, hseq⟩ := List.ne_and_not_mem_of_not_mem_cons hseq
    obtain ⟨hereset, hreset⟩ := List.ne_and_not_mem_of_not_mem_cons hreset
    obtain ⟨latch, pending, cnt, he⟩ := perform_of_ne_seq_of_ne_reset heseq.symm hereset.symm s
    rw [performAll_cons_next he]
    exact ih hseq hreset _

/-- The first sequencer step of a schedule from HALT stops the model, since nothing before it leaves HALT (R116). -/
theorem performAll_of_halt_of_seq {es : List Event} {s : State} (h : s.phase = .halt) (hreset : .reset ∉ es)
    (hseq : .seq ∈ es) : performAll es s = .fault .halted := by
  obtain ⟨before, after, rfl, hfirst⟩ := List.eq_append_cons_of_mem hseq
  obtain ⟨latch, pending, cnt, hbefore⟩ :=
    performAll_of_no_seq_no_reset hfirst (fun hmem => hreset (List.mem_append_left _ hmem)) s
  obtain ⟨-, hstop⟩ := sequencerWithoutAStep ((s.setMailbox latch pending).setCnt cnt)
  rw [performAll_append _ _ hbefore, performAll, hstop h]

/-- Settles O36: a schedule that answers a next state has no sequencer step in it, so it writes the mailbox and CNT
alone. -/
theorem haltIsAbsorbing : Obligations.HaltIsAbsorbing := by
  refine fun s h => ⟨fun es t hreset ht => ?_, fun es hreset hseq => ?_, fun es => performAll_of_halt_of_seq h,
    ⟨_, rfl, rfl⟩⟩
  · have hseq : .seq ∉ es := fun hmem => by
      cases ht.symm.trans (performAll_of_halt_of_seq h hreset hmem)
    obtain ⟨latch, pending, cnt, hrun⟩ := performAll_of_no_seq_no_reset hseq hreset s
    cases hrun.symm.trans ht
    exact ⟨h, rfl, rfl, rfl, rfl, rfl⟩
  · obtain ⟨latch, pending, cnt, hrun⟩ := performAll_of_no_seq_no_reset hseq hreset s
    exact ⟨_, hrun⟩

/-! ### A receive step and a sequencer step -/

theorem mapNext_id (o : Host.Outcome State Fault Refusal) : mapNext id o = o := by
  cases o <;> rfl

/-- An event whose effect `g` the sequencer's step carries through can be exchanged with that step. -/
theorem performAll_seq_exchange {e : Event} {g : State → State} {s : State} (he : ∀ u, perform e u = .next (g u))
    (hg : perform .seq (g s) = mapNext g (perform .seq s)) : performAll [e, .seq] s = performAll [.seq, e] s := by
  rw [performAll_cons_next (he s), performAll, performAll, hg]
  cases perform .seq s with
  | next t => exact (performAll_cons_next (he t)).symm
  | fault r | refused r => rfl

/-- Outside IDLE a line event, which writes the mailbox or nothing, can be exchanged with a sequencer step (R120). -/
theorem performAll_line_seq_exchange {s : State} (h : s.phase ≠ .idle) (f : LineFrame) :
    performAll [.line f, .seq] s = performAll [.seq, .line f] s := by
  cases hwf : frameWf f with
  | true =>
    exact performAll_seq_exchange (g := (·.latchByte (f.extractLsb' 1 8))) (fun u => by simp [perform_eq, hwf])
      (perform_seq_setMailbox h _ true)
  | false =>
    exact performAll_seq_exchange (g := id) (fun u => by simp [perform_eq, hwf]) (mapNext_id _).symm

/-- Settles O46: outside IDLE the exchange; in IDLE the take reads the mailbox as it finds it, and a byte received after
it waits there. -/
theorem receiveStepInterleavings : Obligations.ReceiveStepInterleavings := by
  refine ⟨fun s f h => performAll_line_seq_exchange h f, fun s d hp hr => ⟨?_, ?_⟩⟩
  · have htake : perform .seq (s.latchByte d) = .next (s.latchByte d).taken := perform_seq_of_pending hp rfl
    exact ⟨_, (performAll_cons_next (perform_rx d s)).trans (performAll_cons_next htake), rfl, rfl⟩
  · have htake : perform .seq s = .next s.taken := perform_seq_of_pending hp hr
    exact ⟨_, (performAll_cons_next htake).trans (performAll_cons_next (perform_rx d s.taken)), rfl, rfl, rfl⟩

end Sys2Proof.Machine

/-! ## Reset and quiescence (O40, O42, O56)

While no byte arrives, the sequencer's steps alone decide which state the block ends in, up to CNT, and thirteen of them
bring it to rest (R146). From reset it rests at once, with the pins at R130's levels, and only a byte gets it going. -/

namespace Sys2Proof.Machine

/-! ### Thirteen steps -/

/-- Among quiet events the sequencer's steps have their effect alone, since the others write only CNT, which those
steps do not read. -/
theorem performAll_of_quiet {es : List Event} (hes : ∀ e ∈ es, e.quiet = true) (s : State) (cnt : Word) :
    ∃ cnt', performAll es (s.setCnt cnt) =
      mapNext (·.setCnt cnt') (performAll (List.replicate (seqCount es) .seq) s) := by
  induction es generalizing s cnt with
  | nil => exact ⟨cnt, rfl⟩
  | cons e es ih =>
    obtain ⟨he, htail⟩ := List.forall_mem_cons.mp hes
    by_cases hseq : e = .seq
    · subst hseq
      have hcount : seqCount (.seq :: es) = seqCount es + 1 := List.count_cons_self
      rw [hcount, List.replicate_succ, performAll, perform_seq_setCnt, performAll]
      cases perform .seq s with
      | next t => exact ih htail t cnt
      | fault r | refused r => exact ⟨cnt, rfl⟩
    · have hcount : seqCount (e :: es) = seqCount es := List.count_cons_of_ne hseq
      obtain ⟨cnt', hcnt⟩ := perform_of_quiet he hseq (s.setCnt cnt)
      rw [hcount, performAll_cons_next hcnt]
      exact ih htail s cnt'

/-- At most six steps end the update in progress, and seven more the pending byte's, if there is one (R92, R146). -/
theorem performAll_seqs_quiescent {s : State} (h : s.phase ≠ .halt) {n : Nat} (hn : 13 ≤ n) :
    ∃ t, performAll (List.replicate n .seq) s = .next t ∧ t.quiescent = true := by
  obtain ⟨u, hu, hidle, -, -⟩ := performAll_seqs_to_idle h
  have hle := s.phase.stepsToIdle_le
  obtain ⟨k, rfl⟩ : ∃ k, n = s.phase.stepsToIdle + k := Nat.exists_eq_add_of_le (by omega)
  rw [performAll_seqs_add k hu]
  cases hr : u.rxPending with
  | false =>
    have hrest : u.quiescent = true := u.quiescent_iff.mpr ⟨hidle, hr⟩
    exact ⟨u, performAll_seqs_of_quiescent hrest k, hrest⟩
  | true => exact ⟨u.updated, performAll_seqs_updated hidle hr (by omega), u.updated_quiescent⟩

/-- Settles O40: the sequencer's steps alone reach a quiescent state, and the other events change only its CNT. -/
theorem quiescentWithinThirteenSteps : Obligations.QuiescentWithinThirteenSteps := by
  intro s es h hes hn
  obtain ⟨t, ht, hrest⟩ := performAll_seqs_quiescent h hn
  obtain ⟨cnt, hrun⟩ := performAll_of_quiet hes s s.cnt
  rw [ht] at hrun
  exact ⟨t.setCnt cnt, hrun, hrest⟩

/-! ### Before the first byte -/

/-- At rest as reset leaves the block (R130, R134): nothing is pending or in progress, and no output is on. -/
structure RestsDark (s : State) : Prop where
  quiescent : s.quiescent = true
  ind : s.ind = false
  outEn : s.outEn = false

theorem restsDark_resetFor (p : PwmPeriod) : RestsDark (State.resetFor p) := ⟨rfl, rfl, rfl⟩

theorem restsDark_resetStep (s : State) : RestsDark (resetStep s) := ⟨rfl, rfl, rfl⟩

section

variable {s : State}

/-- The pin levels of R130. -/
theorem RestsDark.pins (h : RestsDark s) : s.pins = (true, true, false) := by
  rw [State.pins, State.pinA_of_disabled h.outEn, State.pinB_of_disabled h.outEn, State.pinInd, h.ind]

/-- Only a byte wakes the block: any other event, reset among them, leaves it at rest. -/
theorem RestsDark.perform {e : Event} (h : RestsDark s) (he : e.byte? = none) :
    ∃ t, perform e s = .next t ∧ RestsDark t := by
  by_cases hreset : e = .reset
  · subst hreset
    exact ⟨resetStep s, rfl, restsDark_resetStep s⟩
  by_cases hseq : e = .seq
  · subst hseq
    obtain ⟨hp, hr⟩ := s.quiescent_iff.mp h.quiescent
    exact ⟨s, perform_seq_of_not_pending hp hr, h⟩
  · obtain ⟨cnt, hcnt⟩ := perform_of_quiet (by simp [Event.quiet, hreset, he]) hseq s
    exact ⟨s.setCnt cnt, hcnt, h.quiescent, h.ind, h.outEn⟩

theorem RestsDark.performAll {es : List Event} (h : RestsDark s) (hes : ∀ e ∈ es, e.byte? = none) :
    ∃ t, performAll es s = .next t ∧ RestsDark t := by
  induction es generalizing s with
  | nil => exact ⟨s, rfl, h⟩
  | cons e es ih =>
    obtain ⟨he, hes⟩ := List.forall_mem_cons.mp hes
    obtain ⟨u, hu, hdark⟩ := h.perform he
    obtain ⟨t, ht, hdark'⟩ := ih hdark hes
    exact ⟨t, (performAll_cons_next hu).trans ht, hdark'⟩

end

/-- Settles O42: reset leaves the block resting dark, and no event of the schedule wakes it. -/
theorem noByteNoLight : Obligations.NoByteNoLight := by
  intro p es hes
  obtain ⟨t, ht, hdark⟩ := (restsDark_resetFor p).performAll (List.filterMap_eq_nil_iff.mp hes)
  exact ⟨t, ht, hdark.pins, hdark.quiescent⟩

/-! ### Reset -/

/-- Settles O56: reset writes R130's values over any state, and the pins follow from the outputs being off. -/
theorem resetValues : Obligations.ResetValues := by
  refine ⟨fun s => ⟨resetStep s, rfl, ?_⟩, ?_⟩
  · exact ⟨rfl, rfl, rfl, rfl, rfl, rfl, rfl, rfl, rfl, rfl, (restsDark_resetStep s).pins⟩
  · exact ⟨rfl, rfl, rfl, rfl, rfl, rfl, rfl, rfl, rfl, rfl, rfl, (restsDark_resetFor Config.pwmPeriod).pins⟩

end Sys2Proof.Machine
